-- ==== Sys2Proof/Word.lean ====
section
/-! DEFINITION. The two words of the BZ640's links and encoders: a byte of a frame and a roller count. -/

namespace Sys2Proof

/-- One byte of a frame (Chapter 12). -/
abbrev Byte := BitVec 8

/-- A roller count: 0..4,294,967,295, wrapping to 0 (R89). -/
abbrev RollerCount := BitVec 32

/-- The CRC of a frame (R188). -/
abbrev Crc := BitVec 16

end Sys2Proof
end

