-- ==== Sys2Proof/Syntax.lean ====
section
/-! DEFINITION. The commands the BZ640 takes: one constructor of `Instr` for each row of spec/opcode_table.json,
with the operand types. Requests carry the port they arrive on, their tag and their fields as the frame carries
them (raw codes and numbers); events carry what the pit equipment delivers. -/

namespace Sys2Proof

/-! ## Places -/

/-- The three ports; the role of a request is the role of its port (R185). -/
inductive PortId where
  | depot | lathe | console
  deriving DecidableEq, Repr

/-- A station of the pit, or the position with the same number (00_scope 3). -/
inductive Station where
  | one | two
  deriving DecidableEq, Repr

/-- A pit side (00_scope 3). -/
inductive Side where
  | l | r
  deriving DecidableEq, Repr

/-- A gauge channel or roller encoder: S1L, S1R, S2L or S2R. -/
structure Channel where
  station : Station
  side    : Side
  deriving DecidableEq, Repr

/-- One value for each jack J1..J4. -/
structure Jacks (α : Type) where
  j1 : α
  j2 : α
  j3 : α
  j4 : α
  deriving DecidableEq, Repr

/-! ## Fields of a record image -/

/-- Why a plan excluded an axle (R137). -/
inductive ExclusionReason where
  | budget | exchange | noTemplate | noFit | condemn | depth | matchCondemn | matchDepth
  deriving DecidableEq, Repr

/-- The kind of a history event with the further fields of that kind (R34). -/
inductive EventKind where
  | loaded
  | measure (ftA ftB : Int) (wear : Option Nat)
  | verified
  | verifyFail (endA endB : Bool)
  | cut (template : Nat) (largestRemoval : Int)
  | partialCut (completedSteps : Nat)
  | excluded (reason : ExclusionReason)
  deriving DecidableEq, Repr

/-- A history event (R33). -/
structure HistoryEvent where
  kind      : EventKind
  jobNumber : Nat
  odometer  : Nat
  diameterA : Int
  diameterB : Int
  deriving DecidableEq, Repr

/-- What LOAD_AXLE carries (R25). -/
structure AxleImage where
  identity   : List Byte
  truncated  : Bool
  newDia     : Int
  condemnDia : Int
  turnedA    : Int
  turnedB    : Int
  budget     : Nat
  wear       : Option Nat
  wearAlert  : Bool
  remeasure  : Bool
  condemned  : Bool
  history    : List HistoryEvent
  deriving DecidableEq, Repr

/-! ## Fields of the other requests -/

/-- What SET_JOB carries (R46, 12.2), codes raw. Position 2 is absent when its orientation and its identity
length are both 0 (R203). -/
structure JobFields where
  jobNumber       : Nat
  odometer        : Nat
  mode            : Nat
  defaultTemplate : Nat
  upperIndex      : Nat
  bias            : Int
  supportHeight   : Int
  orientation1    : Nat
  identity1       : List Byte
  orientation2    : Nat
  identity2       : List Byte
  deriving DecidableEq, Repr

/-- A template point (y, t) (R124). -/
structure TemplatePoint where
  y : Int
  t : Int
  deriving DecidableEq, Repr

/-- What LOAD_TEMPLATE carries beside the index (R125). `count` is the carried point count, which row 3 of R125
compares with the number of points carried. -/
structure TemplateFields where
  name   : List Byte
  ftNom  : Int
  count  : Nat
  points : List TemplatePoint
  deriving DecidableEq, Repr

/-- What LOAD_DISPOSITION carries (R132), entry codes raw. -/
structure DispositionFields where
  lower : Int
  width : Int
  count : Nat
  codes : List Nat
  deriving DecidableEq, Repr

/-- The pins sampled when reset is released (R18, R52, R60, R186). Strap levels are in thousandths of the supply. -/
structure ReleasePins where
  stationStrap : Nat
  rateStrap    : Nat
  encoders     : Jacks Int
  chainOpen    : Bool
  deriving DecidableEq, Repr

/-! ## The commands -/

/-- The commands of spec/opcode_table.json, in the table's order. -/
inductive Instr where
  | loadAxle (port : PortId) (tag : Byte) (image : AxleImage)
  | readAxle (port : PortId) (tag : Byte) (identity : List Byte)
  | unloadAxle (port : PortId) (tag : Byte) (identity : List Byte)
  | listAxles (port : PortId) (tag : Byte) (start : Nat)
  | setJob (port : PortId) (tag : Byte) (fields : JobFields)
  | closeJob (port : PortId) (tag : Byte)
  | loadTemplate (port : PortId) (tag : Byte) (index : Nat) (fields : TemplateFields)
  | readTemplate (port : PortId) (tag : Byte) (index : Nat)
  | loadDisposition (port : PortId) (tag : Byte) (fields : DispositionFields)
  | readDisposition (port : PortId) (tag : Byte)
  | setConfig (port : PortId) (tag : Byte) (item index : Nat) (value : Int)
  | readConfig (port : PortId) (tag : Byte)
  | readStatus (port : PortId) (tag : Byte)
  | unknownMessageCode (port : PortId) (tag : Byte) (code : Byte)
  | clampRequest (port : PortId) (tag : Byte) (station : Nat)
  | unclampReport (port : PortId) (tag : Byte) (station : Nat)
  | ackFault (port : PortId) (tag : Byte)
  | liftMove (port : PortId) (tag : Byte) (target : Int) (moveClass : Nat)
  | liftStopDecel (port : PortId) (tag : Byte)
  | liftStopImmediate (port : PortId) (tag : Byte)
  | startMeasure (port : PortId) (tag : Byte) (station : Nat)
  | readMeasure (port : PortId) (tag : Byte) (position : Nat)
  | plan (port : PortId) (tag : Byte)
  | readPlan (port : PortId) (tag : Byte)
  | startCut (port : PortId) (tag : Byte)
  | suspendCut (port : PortId) (tag : Byte)
  | resumeCut (port : PortId) (tag : Byte)
  | abandonCut (port : PortId) (tag : Byte)
  | takePass (port : PortId) (tag : Byte) (station : Nat)
  | passDone (port : PortId) (tag : Byte) (station step : Nat)
  | passAborted (port : PortId) (tag : Byte) (station step : Nat)
  | toolChanged (port : PortId) (tag : Byte) (station side life : Nat)
  | estopAssertion
  | estopRelease
  | jackSample (readings : Jacks Int)
  | profileUpdate
  | settleTimerExpiry
  | gaugePoint (channel : Channel) (y z : Int)
  | endMarker (channel : Channel)
  | wheelIndexEdge (station : Station)
  | rollerCount (channel : Channel)
  | scanTimerExpiry (station : Station)
  | stepTimerExpiry (station : Station)
  | frameReceived (port : PortId) (bytes : List Byte)
  | byteGapTimerExpiry (port : PortId)
  | transmitEnd (port : PortId)
  | reset
  | resetRelease (pins : ReleasePins)
  | characterReceived (port : PortId) (byte : Byte) (stopBit : Bool)
  deriving DecidableEq, Repr

end Sys2Proof
end

