-- ==== Sys2Proof/WellFormed.lean ====
section
/-! DEFINITION. Which commands a link or the pit can deliver: every number fits the width of its field (Sections 12.2 and
12.4), every list its payload. A command outside this still has a meaning (log 27). -/

namespace Sys2Proof

/-- A code or count of one byte. -/
def fitsByte (n : Nat) : Bool := decide (n < 256)

/-- A number of two bytes. -/
def fitsPair (n : Nat) : Bool := decide (n < 65536)

/-- A length of three bytes. -/
def fitsLength (n : Int) : Bool := decide (0 ≤ n) && decide (n < 16777216)

/-- A signed number of four bytes. -/
def fitsSigned (n : Int) : Bool := decide (-2147483648 ≤ n) && decide (n < 2147483648)

/-- The payload of two frames at most (R204). -/
def fitsPayload (n : Nat) : Bool := decide (n ≤ 480)

/-- An identity field: a length byte and that many bytes. -/
def fitsIdentity (bs : List Byte) : Bool := fitsByte bs.length

def fitsEventKind : EventKind → Bool
  | .loaded => true
  | .measure a b w => fitsLength a && fitsLength b && w.all fitsPair
  | .verified => true
  | .verifyFail _ _ => true
  | .cut t m => fitsByte t && decide (0 ≤ m) && decide (m < 65536)
  | .partialCut n => fitsByte n
  | .excluded _ => true

def fitsEvent (e : HistoryEvent) : Bool :=
  fitsPair e.jobNumber && fitsLength e.odometer && fitsLength e.diameterA && fitsLength e.diameterB
    && fitsEventKind e.kind

/-- The length of an event (12.4). -/
def sizeOfEvent (e : HistoryEvent) : Nat :=
  match e.kind with
  | .loaded => 12
  | .measure _ _ w => if w.isSome then 20 else 18
  | .verified => 12
  | .verifyFail _ _ => 13
  | .cut _ _ => 15
  | .partialCut _ => 13
  | .excluded _ => 13

/-- The length of a record image (12.4). -/
def sizeOfImage (i : AxleImage) : Nat := 18 + i.identity.length + (i.history.map sizeOfEvent).sum

def fitsImage (i : AxleImage) : Bool :=
  fitsIdentity i.identity && fitsLength i.newDia && fitsLength i.condemnDia && fitsLength i.turnedA
    && fitsLength i.turnedB && fitsByte i.budget && i.wear.all fitsPair && i.history.all fitsEvent
    && fitsPayload (sizeOfImage i)

def fitsJob (f : JobFields) : Bool :=
  fitsPair f.jobNumber && fitsLength f.odometer && fitsByte f.mode && fitsByte f.defaultTemplate
    && fitsByte f.upperIndex && decide (-128 ≤ f.bias) && decide (f.bias < 128) && fitsLength f.supportHeight
    && fitsByte f.orientation1 && fitsByte f.orientation2 && fitsIdentity f.identity1 && fitsIdentity f.identity2
    && fitsPayload (16 + f.identity1.length + f.identity2.length)

def fitsPoint (p : TemplatePoint) : Bool := fitsLength p.y && fitsSigned p.t

def fitsTemplate (t : TemplateFields) : Bool :=
  t.name.length == 8 && fitsLength t.ftNom && fitsByte t.count && t.points.all fitsPoint
    && fitsPayload (13 + 7 * t.points.length)

def fitsDisposition (d : DispositionFields) : Bool :=
  fitsLength d.lower && decide (0 ≤ d.width) && decide (d.width < 65536) && fitsByte d.count && d.codes.all fitsByte
    && fitsPayload (6 + d.codes.length)

/-- The message codes that name a request (12.2). -/
def knownCodes : List Nat :=
  [0x01, 0x02, 0x03, 0x04, 0x10, 0x11, 0x18, 0x19, 0x1A, 0x1B, 0x20, 0x21, 0x22, 0x30, 0x31, 0x32, 0x38, 0x39, 0x40,
    0x41, 0x48, 0x49, 0x50, 0x51, 0x52, 0x53, 0x58, 0x59, 0x5A, 0x5B]

/-- One frame: the start marker and at most 246 further bytes (12.1). -/
def fitsFrame (bytes : List Byte) : Bool := bytes.head? == some 0xA5 && decide (bytes.length ≤ 247)

/-- Strap levels are parts of the supply, in thousandths. -/
def fitsPins (p : ReleasePins) : Bool := decide (p.stationStrap ≤ 1000) && decide (p.rateStrap ≤ 1000)

/-- The check of a command's operands. -/
def Instr.wellFormed : Instr → Bool
  | .loadAxle _ _ image => fitsImage image
  | .readAxle _ _ identity => fitsIdentity identity
  | .unloadAxle _ _ identity => fitsIdentity identity
  | .listAxles _ _ start => fitsByte start
  | .setJob _ _ fields => fitsJob fields
  | .loadTemplate _ _ index fields => fitsByte index && fitsTemplate fields
  | .readTemplate _ _ index => fitsByte index
  | .loadDisposition _ _ fields => fitsDisposition fields
  | .setConfig _ _ item index value => fitsByte item && fitsByte index && fitsSigned value
  | .unknownMessageCode _ _ code => !knownCodes.contains code.toNat
  | .clampRequest _ _ station => fitsByte station
  | .unclampReport _ _ station => fitsByte station
  | .liftMove _ _ target moveClass => fitsLength target && fitsByte moveClass
  | .startMeasure _ _ station => fitsByte station
  | .readMeasure _ _ position => fitsByte position
  | .takePass _ _ station => fitsByte station
  | .passDone _ _ station step => fitsByte station && fitsByte step
  | .passAborted _ _ station step => fitsByte station && fitsByte step
  | .toolChanged _ _ station side life => fitsByte station && fitsByte side && fitsByte life
  | .frameReceived _ bytes => fitsFrame bytes
  | .resetRelease pins => fitsPins pins
  | _ => true

end Sys2Proof
end

