-- ==== Sys2Proof/Decode.lean ====
section
/-! DEFINITION. The decoder of the table's bits: spec/opcode_table.json gives no row any bits, so no word spells a command.
The frames of the links are read in Machine/Link.lean and Machine/Operands.lean. -/

namespace Sys2Proof

/-- The command that a word spells by the bits of spec/opcode_table.json: none, since no row has bits. -/
def decodeTableWord (_nbits _w : Nat) : Option Instr := none

end Sys2Proof
end

