-- ==== Sys2Proof/Config.lean ====
section
/-! DEFINITION. The values that the manual leaves open and the part nevertheless has: free values, without a body. -/

namespace Sys2Proof

/-- The number that stands in the bytes of a field of `width` bytes when the value to be sent does not fit
the width of its quantity (R202 gives such a value no encoding). Free: log 10. -/
opaque Config.unfitNumber (width : Nat) (value : Int) : Nat

/-- Whether a station-count strap level exactly midway between low and high reads as high
(R52: "the nearer level" decides every other level). Free: log 11. -/
opaque Config.stationStrapTieHigh : Bool

/-- Whether a link-rate strap level exactly midway between two defined levels reads as the upper of them
(R186: "the nearer of them" decides every other level). Free: log 11. -/
opaque Config.rateStrapTieUpper : Bool

end Sys2Proof
end

