-- ==== Sys2Proof/Machine/State.lean ====
section
/-! DEFINITION. The state of the BZ640 block by block, as plain data, and the state right after reset. -/

namespace Sys2Proof.Machine

/-! ## Containers -/

/-- One value for each station or position. -/
structure PerStation (α : Type) where
  one : α
  two : α
  deriving DecidableEq, Repr

/-- One value for each pit side. -/
structure Sides (α : Type) where
  l : α
  r : α
  deriving DecidableEq, Repr

/-! ## Straps (R52, R186) -/

/-- The station count latched from its strap (R52). -/
inductive StationCount where
  | single | tandem
  deriving DecidableEq, Repr

/-- The link rate latched from its strap (R186). -/
inductive LinkRate where
  | r115200 | r230400 | r460800 | r921600
  deriving DecidableEq, Repr

structure Straps where
  stationCount : StationCount
  linkRate     : LinkRate
  deriving DecidableEq, Repr

/-! ## Pit Interlock (Chapter 1) -/

/-- The pit phases (1.1). -/
inductive Phase where
  | idle | staged | supported | clamped | cutting | halted
  deriving DecidableEq, Repr

/-- The halt causes (1.6). -/
inductive HaltCause where
  | estop | tilt | follow | settle | support
  deriving DecidableEq, Repr

/-- The cause set: each cause at most once, in no order (R13). -/
structure CauseSet where
  estop   : Bool
  tilt    : Bool
  follow  : Bool
  settle  : Bool
  support : Bool
  deriving DecidableEq, Repr

structure Interlock where
  phase      : Phase
  clamped    : PerStation Bool
  estopLatch : Bool
  causes     : CauseSet
  /-- The cut-permit outputs (R8). -/
  permits    : PerStation Bool
  deriving DecidableEq, Repr

/-! ## Record Store (Chapter 2) -/

/-- The binding of a record (R20). -/
inductive Binding where
  | none | position1 | position2
  deriving DecidableEq, Repr

/-- An axle record (R20). -/
structure AxleRecord where
  identity   : List Byte
  truncated  : Bool
  newDia     : Int
  condemnDia : Int
  turnedA    : Int
  turnedB    : Int
  budget     : Nat
  wear       : Option Nat
  dirty      : Bool
  wearAlert  : Bool
  remeasure  : Bool
  condemned  : Bool
  binding    : Binding
  history    : List HistoryEvent
  deriving DecidableEq, Repr

/-- A folded identity and whether this folding truncated it (R23). -/
structure Folded where
  identity  : List Byte
  truncated : Bool
  deriving DecidableEq, Repr

/-- The change set of a RECORD_CHANGED notice (R35). -/
structure ChangeSet where
  history   : Bool
  budget    : Bool
  diameters : Bool
  wear      : Bool
  flags     : Bool
  binding   : Bool
  deriving DecidableEq, Repr

/-! ## Job Register (Chapter 3) -/

/-- The orientation of a position (R49). -/
inductive Orientation where
  | aOnL | aOnR
  deriving DecidableEq, Repr

/-- The planning mode (R50). -/
inductive PlanMode where
  | fast | full
  deriving DecidableEq, Repr

structure JobPosition where
  identity    : List Byte
  orientation : Orientation
  deriving DecidableEq, Repr

/-- The open job (R45). -/
structure Job where
  number          : Nat
  odometer        : Nat
  position1       : JobPosition
  position2       : Option JobPosition
  mode            : PlanMode
  defaultTemplate : Nat
  upperIndex      : Nat
  bias            : Int
  supportHeight   : Int
  deriving DecidableEq, Repr

/-! ## Lift Sequencer (Chapter 4) -/

/-- The lift states (R64). -/
inductive LiftState where
  | idle | accel | run | decel | creep | settle | fault
  deriving DecidableEq, Repr

/-- The class of a move (4.3). -/
inductive MoveClass where
  | normal | creep
  deriving DecidableEq, Repr

/-- The direction of a move and of a direction output (R62, R66). -/
inductive Direction where
  | up | down
  deriving DecidableEq, Repr

/-- A lift move: its common target and class (4.3). -/
structure Move where
  target    : Int
  moveClass : MoveClass
  deriving DecidableEq, Repr

/-- One jack axis (R60) with its direction output and the count of the pulses it has emitted (R62). -/
structure Axis where
  command        : Int
  accumulator    : Int
  measured       : Int
  followingError : Int
  target         : Option Int
  moveTrim       : Int
  direction      : Direction
  pulses         : Nat
  deriving DecidableEq, Repr

/-- The copies of the lift configuration that a move takes when it starts (R66, R84); the trims are in the axes. -/
structure MoveCopies where
  fl           : Int
  fh           : Int
  acceleration : Int
  rampOffset   : Int
  tiltLimit    : Int
  followLimit  : Int
  window       : Int
  settleTime   : Int
  deriving DecidableEq, Repr

structure Lift where
  axes      : Jacks Axis
  state     : LiftState
  working   : Option Move
  staged    : Option Move
  /-- The mark of a stopping move (R79). -/
  stopping  : Bool
  /-- The direction of the working move (R66). -/
  direction : Direction
  speed     : Int
  remainder : Int
  copies    : MoveCopies
  /-- The settle timer: stopped, or its milliseconds left (R78). -/
  settleTimer   : Option Nat
  brakesApplied : Bool
  drivesEnabled : Bool
  deriving DecidableEq, Repr

/-! ## Scan Unit (Chapter 5) -/

/-- The scan state of a station (R88). -/
inductive ScanState where
  | idle | collecting
  deriving DecidableEq, Repr

/-- A kept gauge point (y, r) (R93). -/
structure Point where
  y : Int
  r : Int
  deriving DecidableEq, Repr

/-- What one side of a scan holds (R88). -/
structure ScanSide where
  points    : List Point
  disorder  : Nat
  truncated : Bool
  endMarker : Bool
  captures  : List RollerCount
  deriving DecidableEq, Repr

structure Scan where
  state    : ScanState
  sides    : Sides ScanSide
  scanTime : Option Int
  /-- The scan timer: stopped, or its milliseconds left (R99). -/
  timer    : Option Nat
  deriving DecidableEq, Repr

/-! ## Measurement Unit (Chapter 6) -/

/-- The states of a measurement record (R106). -/
inductive MeasureState where
  | none | scanning | valid | disagree | invalid | stale
  deriving DecidableEq, Repr

/-- The end cause of a scan (R101). -/
inductive EndCause where
  | complete | timeout | clampLost | halt
  deriving DecidableEq, Repr

/-- The reason of a measurement record (R105). -/
inductive Reason where
  | timeout | clampLost | halt | disorder | range | noFlange | noFace | agreement
  deriving DecidableEq, Repr

/-- The outcome of one wheel (R105). -/
inductive WheelOutcome where
  | none | pass | disorder | range | noFlange | noFace | agreement
  deriving DecidableEq, Repr

/-- The verification outcome of a measurement record (R105). -/
inductive VerifyOutcome where
  | none | verified | verifyFail (sideL sideR : Bool)
  deriving DecidableEq, Repr

/-- The flange tip of a wheel (R110). -/
structure Tip where
  index : Nat
  y     : Int
  r     : Int
  fh    : Int
  deriving DecidableEq, Repr

/-- The flange-face slope of a wheel (R113). -/
structure Slope where
  yTip2 : Int
  qr    : Int
  deriving DecidableEq, Repr

/-- The per-wheel items of a measurement record (R105). -/
structure Wheel where
  outcome    : WheelOutcome
  pointsKept : Nat
  disorder   : Nat
  truncated  : Bool
  rTap       : Option Int
  tip        : Option Tip
  ft         : Option Int
  slope      : Option Slope
  span       : Option Nat
  dRoll      : Option Int
  difference : Option Int
  deriving DecidableEq, Repr

/-- A measurement record (R105). -/
structure Measurement where
  state         : MeasureState
  endCause      : Option EndCause
  reason        : Option Reason
  reasonWheel   : Option Side
  agreeTol      : Option Int
  verifyTol     : Option Int
  verifyDue     : Bool
  verifyTarget  : Option Int
  verifyOutcome : VerifyOutcome
  wheels        : Sides Wheel
  deriving DecidableEq, Repr

/-- The configuration items and the tolerance copy that one wheel's computation uses (R107). -/
structure WheelInputs where
  yTap      : Int
  hRef      : Int
  qrOffset  : Int
  rollerDia : Int
  counts    : Int
  agreeTol  : Int
  deriving DecidableEq, Repr

/-! ## Template Table (Chapter 7) -/

/-- A template (R124). -/
structure Template where
  name   : List Byte
  ftNom  : Int
  points : List TemplatePoint
  deriving DecidableEq, Repr

/-- A template slot (R123): EMPTY when `template` is none, LOADED otherwise. -/
structure Slot where
  template : Option Template
  locked   : Bool
  deriving DecidableEq, Repr

/-- An entry of the disposition table (R131). -/
inductive DispositionEntry where
  | template (index : Nat) | exchange | noEntry
  deriving DecidableEq, Repr

/-- The disposition table (R131); its entry count n is the number of entries. -/
structure Disposition where
  lower   : Option Int
  width   : Option Int
  entries : List DispositionEntry
  deriving DecidableEq, Repr

/-! ## Planner (Chapter 8) -/

/-- The result of a disposition lookup (R133). -/
inductive Lookup where
  | template (index : Nat) | exchange | default
  deriving DecidableEq, Repr

/-- One entry of an evaluation table (R137). -/
inductive Evaluation where
  | notConsidered
  | ineligible
  | notEvaluable (wheel : Side)
  | evaluated (rL rR rAxle : Int)
  deriving DecidableEq, Repr

/-- The kind of a step (R138). -/
inductive StepKind where
  | rough | finish
  deriving DecidableEq, Repr

/-- A step entry of a step list (R138). -/
structure StepEntry where
  number : Nat
  kind   : StepKind
  depth  : Sides Int
  target : Sides Int
  deriving DecidableEq, Repr

/-- The outcome of a position in a plan (R137). -/
inductive PlanOutcome where
  | included | excluded (reason : ExclusionReason)
  deriving DecidableEq, Repr

/-- A position record of a plan (R137). -/
structure PositionRecord where
  outcome     : PlanOutcome
  thinnerFt   : Int
  lookup      : Lookup
  evaluations : List Evaluation
  chosen      : Option Nat
  used        : Option Nat
  ownRadius   : Option Int
  matched     : Bool
  rFinal      : Option Int
  rTap        : Option (Sides Int)
  maxRemoval  : Option (Sides Int)
  tapingDepth : Option (Sides Int)
  stepCount   : Option Nat
  steps       : List StepEntry
  deriving DecidableEq, Repr

/-- The status of a plan (R155). -/
inductive PlanStatus where
  | fullPlan | partialPlan | empty
  deriving DecidableEq, Repr

/-- A standing plan (R136). -/
structure Plan where
  jobNumber       : Nat
  mode            : PlanMode
  defaultTemplate : Nat
  upperIndex      : Nat
  bias            : Int
  status          : PlanStatus
  positions       : PerStation (Option PositionRecord)
  deriving DecidableEq, Repr

/-! ## Cut Sequencer (Chapter 9) -/

/-- The cut states (R161). -/
inductive CutState where
  | none | planned | running | suspended | complete | abandoned
  deriving DecidableEq, Repr

/-- The suspend and abort causes (R161). -/
inductive SuspendCause where
  | operator | timeout | latheAbort | clampLost | halt
  deriving DecidableEq, Repr

/-- A cut context (R162). -/
structure CutContext where
  next      : Option Nat
  inFlight  : Option Nat
  completed : Nat
  firstDone : Bool
  axleDone  : Bool
  late      : Option Nat
  stepTime  : Option Int
  deriving DecidableEq, Repr

structure CutSequencer where
  state    : CutState
  cause    : Option SuspendCause
  contexts : PerStation CutContext
  /-- The step timers: stopped, or their milliseconds left (R168). -/
  timers   : PerStation (Option Nat)
  /-- The tool edge lives (R163). -/
  tools    : PerStation (Sides Nat)
  deriving DecidableEq, Repr

/-! ## Link Unit (Chapter 11) -/

/-- The configuration items (R198). -/
structure Configuration where
  fl            : Int
  fh            : Int
  acceleration  : Int
  rampOffset    : Int
  tiltLimit     : Int
  followLimit   : Int
  window        : Int
  settleTime    : Int
  trims         : Jacks Int
  refRadius     : PerStation (Sides Int)
  rollerDia     : PerStation (Sides Int)
  rollerCounts  : PerStation (Sides Int)
  yTap          : Int
  hRef          : Int
  qrOffset      : Int
  scanTime      : Int
  agreeTol      : Int
  verifyTol     : Int
  cleanUp       : Int
  finishDepth   : Int
  maxRough      : Int
  bogieTol      : Int
  ftMin         : Int
  stepTime      : Int
  wearAlertRate : Int
  deriving DecidableEq, Repr

/-- The result codes (00_scope 4.4). -/
inductive Result where
  | ok | adjusted | role | form | interlock | busy | full | notFound | bound | inUse | inFlight | tool | late | stale | none
  deriving DecidableEq, Repr

/-- The refusal causes of PLAN and START_CUT (12.7). -/
inductive RefusalCause where
  | noJob | cutState | measurement | emptyPlan | halted | budget
  deriving DecidableEq, Repr

/-- The template faults (12.7), with the point index that POINT_RANGE and ORDER name. -/
inductive TemplateFault where
  | index | count | name | ftNom | pointRange (point : Nat) | order (point : Nat) | taping
  deriving DecidableEq, Repr

/-- A request as the Link Unit hands it to its owner (R190). `unknownCode` is a message code that names no request
(row 1), `badPayload` a known code whose payload has not the length its fields require (row 3) or cannot be read by
its owner's layout (the FORM cases of R202 and R203). -/
inductive Request where
  | loadAxle (image : AxleImage)
  | readAxle (identity : List Byte)
  | unloadAxle (identity : List Byte)
  | listAxles (start : Nat)
  | setJob (fields : JobFields)
  | closeJob
  | loadTemplate (index : Nat) (fields : TemplateFields)
  | readTemplate (index : Nat)
  | loadDisposition (fields : DispositionFields)
  | readDisposition
  | setConfig (item index : Nat) (value : Int)
  | readConfig
  | readStatus
  | clampRequest (station : Nat)
  | unclampReport (station : Nat)
  | ackFault
  | liftMove (target : Int) (moveClass : Nat)
  | liftStopDecel
  | liftStopImmediate
  | startMeasure (station : Nat)
  | readMeasure (position : Nat)
  | plan
  | readPlan
  | startCut
  | suspendCut
  | resumeCut
  | abandonCut
  | takePass (station : Nat)
  | passDone (station step : Nat)
  | passAborted (station step : Nat)
  | toolChanged (station side life : Nat)
  | unknownCode (code : Byte)
  | badPayload (code : Byte)
  deriving DecidableEq, Repr

/-- A request frame not yet taken (R185, receive buffer). -/
structure Waiting where
  tag     : Byte
  request : Request
  deriving DecidableEq, Repr

/-- What an owner answers: the result code and the bytes of the fields after it (R192, R202). -/
structure Answer where
  result   : Result
  contents : List Byte
  deriving DecidableEq, Repr

/-- A reply formed (R192), with the restart mark its header carries. -/
structure Reply where
  code    : Byte
  tag     : Byte
  restart : Bool
  answer  : Answer
  deriving DecidableEq, Repr

/-- The outcomes of LIFT_DONE (R85). -/
inductive LiftOutcome where
  | reached | stoppedShort | faulted | stagedDropped
  deriving DecidableEq, Repr

/-- What an event did at a station, as CUT_STATE carries it (R182). -/
inductive StepReport where
  | none | completed (step : Nat) | aborted (step : Nat) (cause : SuspendCause)
  deriving DecidableEq, Repr

/-- The contents of a notice (R194, 12.6). -/
inductive NoticeBody where
  | phase (previous new : Phase)
  | liftDone (outcome : LiftOutcome) (move : Move) (cause : Option HaltCause) (command measured : Jacks Int)
  | liftFault (cause : HaltCause) (named : Jacks Bool) (before : LiftState) (spread : Int)
      (command measured followingError : Jacks Int)
  | scanDone (station : Station) (measurement : Measurement)
  | planDone (plan : Plan)
  | cutState (jobNumber : Nat) (before after : CutState) (cause : Option SuspendCause)
      (reports : PerStation StepReport) (next : PerStation (Option Nat))
  | toolOut (station : Station) (side : Side)
  | recordChanged (identity : List Byte) (changes : ChangeSet)
  | halted (raised : HaltCause) (causes : CauseSet)
  deriving DecidableEq, Repr

/-- A queued notice with its notice number (R194). -/
structure Notice where
  number : Byte
  body   : NoticeBody
  deriving DecidableEq, Repr

/-- The receive state of a port (R185). -/
inductive ReceiveState where
  | hunting | receiving
  deriving DecidableEq, Repr

/-- Which frame of a reply is being sent (R204). -/
inductive ReplyPart where
  | whole | first | second
  deriving DecidableEq, Repr

/-- The transmitter of a port (R185). -/
inductive Transmitter where
  | idle | sendingReply (part : ReplyPart) | sendingNotice
  deriving DecidableEq, Repr

/-- The held first part of a two-part request (R204). -/
structure HeldPart where
  code    : Byte
  tag     : Byte
  payload : List Byte
  deriving DecidableEq, Repr

/-- The items of a port (R185). -/
structure Port where
  receive  : ReceiveState
  /-- The bytes of the frame being received that follow its start marker, oldest first (R187). -/
  received : List Byte
  held     : Option HeldPart
  buffer   : Option Waiting
  reply    : Option Reply
  transmitter : Transmitter
  /-- The bytes of the frame being sent; empty while the transmitter is IDLE (R193). -/
  sending  : List Byte
  queue    : List Notice
  lost     : Bool
  framing  : Bool
  overrun  : Bool
  restart  : Bool
  noticeNumber : Byte
  /-- The byte-gap timer: stopped, or its milliseconds left (R187). -/
  gapTimer : Option Nat
  deriving DecidableEq, Repr

structure Ports where
  depot   : Port
  lathe   : Port
  console : Port
  deriving DecidableEq, Repr

/-! ## The whole state -/

/-- The state of the BZ640 and the queue of the commands that wait for it. -/
structure State where
  /-- The commands that wait, first in, first out. -/
  pending     : List Instr
  /-- Set while reset is asserted (R196). -/
  inReset     : Bool
  straps      : Straps
  interlock   : Interlock
  store       : List AxleRecord
  job         : Option Job
  lift        : Lift
  scans       : PerStation Scan
  rollers     : PerStation (Sides RollerCount)
  measurements : PerStation Measurement
  slots       : Vector Slot 8
  disposition : Disposition
  plan        : Option Plan
  cut         : CutSequencer
  config      : Configuration
  ports       : Ports
  deriving DecidableEq, Repr

/-- The machine never stops with a fault: a lift fault and a halt are states it enters (R11, R82), and a request it
does not carry out is answered (R192). No command raises one. -/
inductive Fault where
  deriving DecidableEq, Repr

/-- No meaning refuses a command. -/
inductive Refusal where
  /-- Raised by `exec` alone, for a command without a meaning; no arm raises it. Safe. -/
  | notModelled (mnemonic : String)
  deriving DecidableEq, Repr

/-! ## Reset values, each from the rule that names it -/

/-- R18. -/
def Interlock.reset : Interlock where
  phase := .idle
  clamped := ⟨false, false⟩
  estopLatch := false
  causes := ⟨false, false, false, false, false⟩
  permits := ⟨false, false⟩

/-- The defaults of R198. -/
def Configuration.defaults : Configuration where
  fl := 500
  fh := 10000
  acceleration := 2000
  rampOffset := 0
  tiltLimit := 3000
  followLimit := 1000
  window := 200
  settleTime := 2000
  trims := ⟨0, 0, 0, 0⟩
  refRadius := ⟨⟨460000, 460000⟩, ⟨460000, 460000⟩⟩
  rollerDia := ⟨⟨100000, 100000⟩, ⟨100000, 100000⟩⟩
  rollerCounts := ⟨⟨4096, 4096⟩, ⟨4096, 4096⟩⟩
  yTap := 70000
  hRef := 10000
  qrOffset := 2000
  scanTime := 30000
  agreeTol := 150
  verifyTol := 100
  cleanUp := 300
  finishDepth := 500
  maxRough := 4000
  bogieTol := 2000
  ftMin := 28000
  stepTime := 900
  wearAlertRate := 0

/-- R60 with the encoder reading given; the move trim has no stated reset value (DESIGN CHOICE 0, log 16). -/
def Axis.reset (reading : Int) : Axis where
  command := reading
  accumulator := 1000 * reading
  measured := reading
  followingError := 0
  target := none
  moveTrim := 0
  direction := .up
  pulses := 0

/-- R62, R64, R79; the direction and the copies have no stated reset value (DESIGN CHOICE, log 16). -/
def Lift.reset (encoders : Jacks Int) : Lift where
  axes := ⟨.reset encoders.j1, .reset encoders.j2, .reset encoders.j3, .reset encoders.j4⟩
  state := .idle
  working := none
  staged := none
  stopping := false
  direction := .up
  speed := 0
  remainder := 0
  copies := ⟨500, 10000, 2000, 0, 3000, 1000, 200, 2000⟩
  settleTimer := none
  brakesApplied := true
  drivesEnabled := false

/-- R88. -/
def ScanSide.reset : ScanSide where
  points := []
  disorder := 0
  truncated := false
  endMarker := false
  captures := []

/-- R88. -/
def Scan.reset : Scan where
  state := .idle
  sides := ⟨.reset, .reset⟩
  scanTime := none
  timer := none

/-- R105. -/
def Wheel.reset : Wheel where
  outcome := .none
  pointsKept := 0
  disorder := 0
  truncated := false
  rTap := none
  tip := none
  ft := none
  slope := none
  span := none
  dRoll := none
  difference := none

/-- R105. -/
def Measurement.reset : Measurement where
  state := .none
  endCause := none
  reason := none
  reasonWheel := none
  agreeTol := none
  verifyTol := none
  verifyDue := false
  verifyTarget := none
  verifyOutcome := .none
  wheels := ⟨.reset, .reset⟩

/-- R162, also the value of an emptied context. -/
def CutContext.empty : CutContext where
  next := none
  inFlight := none
  completed := 0
  firstDone := false
  axleDone := false
  late := none
  stepTime := none

/-- R161, R162, R163, R168. -/
def CutSequencer.reset : CutSequencer where
  state := .none
  cause := none
  contexts := ⟨.empty, .empty⟩
  timers := ⟨none, none⟩
  tools := ⟨⟨0, 0⟩, ⟨0, 0⟩⟩

/-- R185, R204. -/
def Port.reset : Port where
  receive := .hunting
  received := []
  held := none
  buffer := none
  reply := none
  transmitter := .idle
  sending := []
  queue := []
  lost := false
  framing := false
  overrun := false
  restart := true
  noticeNumber := 0
  gapTimer := none

/-- The machine right after the release of reset with the latched straps and the encoder readings given, the e-stop
chain found released, and no command waiting. -/
def State.released (straps : Straps) (encoders : Jacks Int) : State where
  pending := []
  inReset := false
  straps := straps
  interlock := .reset
  store := []
  job := none
  lift := .reset encoders
  scans := ⟨.reset, .reset⟩
  rollers := ⟨⟨0, 0⟩, ⟨0, 0⟩⟩
  measurements := ⟨.reset, .reset⟩
  slots := .replicate 8 ⟨none, false⟩
  disposition := ⟨none, none, []⟩
  plan := none
  cut := .reset
  config := .defaults
  ports := ⟨.reset, .reset, .reset⟩

/-- The machine right after reset. DESIGN CHOICE (log 1): a tandem pit at 115,200 bit/s whose four encoders read 0. -/
def State.reset : State := .released ⟨.tandem, .r115200⟩ ⟨0, 0, 0, 0⟩

end Sys2Proof.Machine
end

