-- ==== Sys2Proof/Machine/Ops.lean ====
section
/-! DEFINITION. The named operations the families share: access to stations, sides, jacks, ports and slots, whole-number
rounding, and the byte encoding of numbers. -/

namespace Sys2Proof.Machine

/-! ## Containers -/

def PerStation.get {α : Type} (p : PerStation α) : Station → α
  | .one => p.one
  | .two => p.two

def PerStation.set {α : Type} (p : PerStation α) (st : Station) (a : α) : PerStation α :=
  match st with
  | .one => { p with one := a }
  | .two => { p with two := a }

def PerStation.map {α β : Type} (f : α → β) (p : PerStation α) : PerStation β := ⟨f p.one, f p.two⟩

def Sides.get {α : Type} (p : Sides α) : Side → α
  | .l => p.l
  | .r => p.r

def Sides.set {α : Type} (p : Sides α) (sd : Side) (a : α) : Sides α :=
  match sd with
  | .l => { p with l := a }
  | .r => { p with r := a }

def Sides.map {α β : Type} (f : α → β) (p : Sides α) : Sides β := ⟨f p.l, f p.r⟩

def jacksMap {α β : Type} (f : α → β) (j : Jacks α) : Jacks β := ⟨f j.j1, f j.j2, f j.j3, f j.j4⟩

def jacksZip {α β γ : Type} (f : α → β → γ) (a : Jacks α) (b : Jacks β) : Jacks γ :=
  ⟨f a.j1 b.j1, f a.j2 b.j2, f a.j3 b.j3, f a.j4 b.j4⟩

/-- J1 to J4 in ascending order. -/
def jacksList {α : Type} (j : Jacks α) : List α := [j.j1, j.j2, j.j3, j.j4]

def jacksAll {α : Type} (f : α → Bool) (j : Jacks α) : Bool := f j.j1 && f j.j2 && f j.j3 && f j.j4

def jacksAny {α : Type} (f : α → Bool) (j : Jacks α) : Bool := f j.j1 || f j.j2 || f j.j3 || f j.j4

def Ports.get (p : Ports) : PortId → Port
  | .depot => p.depot
  | .lathe => p.lathe
  | .console => p.console

def Ports.set (p : Ports) (id : PortId) (q : Port) : Ports :=
  match id with
  | .depot => { p with depot := q }
  | .lathe => { p with lathe := q }
  | .console => { p with console := q }

/-- Replaces one port of the state. -/
def State.setPort (s : State) (id : PortId) (q : Port) : State := { s with ports := s.ports.set id q }

/-- The slot at a template index; an index outside 0..7 reads as an EMPTY, UNLOCKED slot, which no rule reaches. -/
def slotAt (slots : Vector Slot 8) (i : Nat) : Slot := (slots[i]?).getD ⟨none, false⟩

/-! ## Whole numbers (00_scope 4.1) -/

/-- The quotient rounded up, for a divisor above 0. -/
def ceilDiv (n d : Int) : Int := -((-n) / d)

/-- The quotient rounded to nearest, halves up, for a divisor above 0. -/
def roundDiv (n d : Int) : Int := (2 * n + d) / (2 * d)

def magnitude (n : Int) : Int := if n < 0 then -n else n

/-- The value clamped into lo..hi. -/
def clampInt (lo hi n : Int) : Int := if n < lo then lo else if hi < n then hi else n

def maxInt (a b : Int) : Int := if a < b then b else a

def minInt (a b : Int) : Int := if b < a then b else a

/-- The largest of the four values. -/
def jacksMax (j : Jacks Int) : Int := maxInt (maxInt j.j1 j.j2) (maxInt j.j3 j.j4)

/-- The smallest of the four values. -/
def jacksMin (j : Jacks Int) : Int := minInt (minInt j.j1 j.j2) (minInt j.j3 j.j4)

/-! ## Bytes (R202) -/

/-- The low `w` bytes of `v`, most significant byte first (R202). -/
def bytesOf : (w : Nat) → Nat → List Byte
  | 0, _ => []
  | w + 1, v => BitVec.ofNat 8 (v / 256 ^ w) :: bytesOf w v

/-- The number that bytes spell, most significant byte first (R202). -/
def numberOf : List Byte → Nat
  | [] => 0
  | b :: bs => b.toNat * 256 ^ bs.length + numberOf bs

/-- An unsigned number in `w` bytes; a value that does not fit has free bytes (log 10). -/
def unsignedBytes (w : Nat) (v : Int) : List Byte :=
  if 0 ≤ v ∧ v < ((256 ^ w : Nat) : Int) then bytesOf w v.toNat else bytesOf w (Config.unfitNumber w v)

/-- A two's complement number in `w` bytes; a value that does not fit has free bytes (log 10). -/
def signedBytes (w : Nat) (v : Int) : List Byte :=
  if -((256 ^ w / 2 : Nat) : Int) ≤ v ∧ v < ((256 ^ w / 2 : Nat) : Int) then
    bytesOf w (v % ((256 ^ w : Nat) : Int)).toNat
  else bytesOf w (Config.unfitNumber w v)

/-- The signed number that bytes spell in two's complement (R202). -/
def signedOf (bs : List Byte) : Int :=
  if 2 * numberOf bs < 256 ^ bs.length then (numberOf bs : Int) else (numberOf bs : Int) - ((256 ^ bs.length : Nat) : Int)

/-- A quantity of one byte. -/
def oneByte (v : Nat) : List Byte := unsignedBytes 1 v

/-- A length, radius, diameter or odometer: three bytes. -/
def lengthBytes (v : Int) : List Byte := unsignedBytes 3 v

/-- An optional length: its bytes are 0 while it is absent (R202). -/
def optLengthBytes : Option Int → List Byte
  | some v => lengthBytes v
  | none => bytesOf 3 0

/-- An optional item of `width` bytes behind its presence byte; both are 0 while it is absent (R202, log 9). -/
def optionalBytes {α : Type} (width : Nat) (f : α → List Byte) : Option α → List Byte
  | some a => oneByte 1 ++ f a
  | none => bytesOf (width + 1) 0

/-- A step number or none: one byte, 0 for none, with no presence byte. 12.6 states this for CUT_STATE; in the replies that
no layout tables it is the model's reading (log 9). -/
def optByte : Option Nat → List Byte
  | some v => oneByte v
  | none => oneByte 0

def boolBit (b : Bool) (weight : Nat) : Nat := if b then weight else 0

def boolByte (b : Bool) : List Byte := oneByte (boolBit b 1)

/-! ## Stations -/

/-- Whether the station exists in this pit (R53). -/
def stationExists (s : State) : Station → Bool
  | .one => true
  | .two => s.straps.stationCount == .tandem

/-- The station a request's argument names: none when it is not 1 or 2, or is 2 in a single-station pit. -/
def stationArg (s : State) (n : Nat) : Option Station :=
  if n = 1 then some .one
  else if n = 2 && stationExists s .two then some .two
  else none

/-- The items of a station behind its presence byte; those of a station that does not exist are absent (R202, log 9). -/
def stationBytes (s : State) (width : Nat) (f : Station → List Byte) (st : Station) : List Byte :=
  optionalBytes width f (if stationExists s st then some st else none)

/-- The items of both stations, station 1 before station 2. -/
def bothStations (s : State) (width : Nat) (f : Station → List Byte) : List Byte :=
  stationBytes s width f .one ++ stationBytes s width f .two

def stationNumber : Station → Nat
  | .one => 1
  | .two => 2

end Sys2Proof.Machine
end

