-- ==== Sys2Proof/Machine/Codes.lean ====
section
/-! DEFINITION. The codes of Section 12.7 and the message codes of Section 12.2. -/

namespace Sys2Proof.Machine

def Result.code : Result → Nat
  | .ok => 0 | .adjusted => 1 | .role => 2 | .form => 3 | .interlock => 4 | .busy => 5 | .full => 6 | .notFound => 7
  | .bound => 8 | .inUse => 9 | .inFlight => 10 | .tool => 11 | .late => 12 | .stale => 13 | .none => 14

def Phase.code : Phase → Nat
  | .idle => 0 | .staged => 1 | .supported => 2 | .clamped => 3 | .cutting => 4 | .halted => 5

def HaltCause.code : HaltCause → Nat
  | .estop => 1 | .tilt => 2 | .follow => 3 | .settle => 4 | .support => 5

/-- The cause set as bits 0..4 (12.7). -/
def CauseSet.code (c : CauseSet) : Nat :=
  boolBit c.estop 1 + boolBit c.tilt 2 + boolBit c.follow 4 + boolBit c.settle 8 + boolBit c.support 16

def LiftState.code : LiftState → Nat
  | .idle => 0 | .accel => 1 | .run => 2 | .decel => 3 | .creep => 4 | .settle => 5 | .fault => 6

def LiftOutcome.code : LiftOutcome → Nat
  | .reached => 0 | .stoppedShort => 1 | .faulted => 2 | .stagedDropped => 3

def MoveClass.code : MoveClass → Nat
  | .normal => 0 | .creep => 1

/-- The class a code names (12.7). -/
def moveClassOf : Nat → Option MoveClass
  | 0 => some .normal
  | 1 => some .creep
  | _ => none

def MeasureState.code : MeasureState → Nat
  | .none => 0 | .scanning => 1 | .valid => 2 | .disagree => 3 | .invalid => 4 | .stale => 5

def endCauseCode : Option EndCause → Nat
  | none => 0 | some .complete => 1 | some .timeout => 2 | some .clampLost => 3 | some .halt => 4

def reasonCode : Option Reason → Nat
  | none => 0 | some .timeout => 1 | some .clampLost => 2 | some .halt => 3 | some .disorder => 4 | some .range => 5
  | some .noFlange => 6 | some .noFace => 7 | some .agreement => 8

def WheelOutcome.code : WheelOutcome → Nat
  | .none => 0 | .disorder => 4 | .range => 5 | .noFlange => 6 | .noFace => 7 | .agreement => 8 | .pass => 9

/-- The reason wheel: 0 none, 1 L, 2 R (12.5). -/
def reasonWheelCode : Option Side → Nat
  | none => 0 | some .l => 1 | some .r => 2

def exclusionCode : ExclusionReason → Nat
  | .budget => 1 | .exchange => 2 | .noTemplate => 3 | .noFit => 4 | .condemn => 5 | .depth => 6 | .matchCondemn => 7
  | .matchDepth => 8

def exclusionOf : Nat → Option ExclusionReason
  | 1 => some .budget | 2 => some .exchange | 3 => some .noTemplate | 4 => some .noFit | 5 => some .condemn
  | 6 => some .depth | 7 => some .matchCondemn | 8 => some .matchDepth
  | _ => none

/-- 0 INCLUDED, else the reason (12.6). -/
def PlanOutcome.code : PlanOutcome → Nat
  | .included => 0
  | .excluded r => exclusionCode r

def Evaluation.code : Evaluation → Nat
  | .notConsidered => 0 | .ineligible => 1 | .notEvaluable .l => 2 | .notEvaluable .r => 3 | .evaluated _ _ _ => 4

def Lookup.code : Lookup → Nat
  | .template i => i | .exchange => 0xFE | .default => 0xFF

def DispositionEntry.code : DispositionEntry → Nat
  | .template i => i | .exchange => 0xFE | .noEntry => 0xFF

/-- The disposition entry a code names (R132). -/
def dispositionEntryOf (c : Nat) : Option DispositionEntry :=
  if c < 8 then some (.template c) else if c = 0xFE then some .exchange else if c = 0xFF then some .noEntry else none

def PlanStatus.code : PlanStatus → Nat
  | .fullPlan => 0 | .partialPlan => 1 | .empty => 2

def CutState.code : CutState → Nat
  | .none => 0 | .planned => 1 | .running => 2 | .suspended => 3 | .complete => 4 | .abandoned => 5

def suspendCode : Option SuspendCause → Nat
  | none => 0 | some .operator => 1 | some .timeout => 2 | some .latheAbort => 3 | some .clampLost => 4 | some .halt => 5

def RefusalCause.code : RefusalCause → Nat
  | .noJob => 1 | .cutState => 2 | .measurement => 3 | .emptyPlan => 4 | .halted => 5 | .budget => 6

def TemplateFault.code : TemplateFault → Nat
  | .index => 1 | .count => 2 | .name => 3 | .ftNom => 4 | .pointRange _ => 5 | .order _ => 6 | .taping => 7

def PlanMode.code : PlanMode → Nat
  | .fast => 0 | .full => 1

def planModeOf : Nat → Option PlanMode
  | 0 => some .fast
  | 1 => some .full
  | _ => none

def Orientation.code : Orientation → Nat
  | .aOnL => 1 | .aOnR => 2

def orientationOf : Nat → Option Orientation
  | 1 => some .aOnL
  | 2 => some .aOnR
  | _ => none

def sideCode : Side → Nat
  | .l => 0 | .r => 1

def sideOf : Nat → Option Side
  | 0 => some .l
  | 1 => some .r
  | _ => none

def StepKind.code : StepKind → Nat
  | .rough => 0 | .finish => 1

def ScanState.code : ScanState → Nat
  | .idle => 0 | .collecting => 1

def LinkRate.code : LinkRate → Nat
  | .r115200 => 0 | .r230400 => 1 | .r460800 => 2 | .r921600 => 3

def Binding.code : Binding → Nat
  | .none => 0 | .position1 => 1 | .position2 => 2

/-- The change set as bits 0..5 (12.6). -/
def ChangeSet.code (c : ChangeSet) : Nat :=
  boolBit c.history 1 + boolBit c.budget 2 + boolBit c.diameters 4 + boolBit c.wear 8 + boolBit c.flags 16
    + boolBit c.binding 32

/-- The message codes of the requests (12.2). -/
def Request.code : Request → Byte
  | .loadAxle _ => 0x01 | .readAxle _ => 0x02 | .unloadAxle _ => 0x03 | .listAxles _ => 0x04
  | .setJob _ => 0x10 | .closeJob => 0x11
  | .loadTemplate _ _ => 0x18 | .readTemplate _ => 0x19 | .loadDisposition _ => 0x1A | .readDisposition => 0x1B
  | .setConfig _ _ _ => 0x20 | .readConfig => 0x21 | .readStatus => 0x22
  | .clampRequest _ => 0x30 | .unclampReport _ => 0x31 | .ackFault => 0x32
  | .liftMove _ _ => 0x38 | .liftStopDecel => 0x39 | .liftStopImmediate => 0x39
  | .startMeasure _ => 0x40 | .readMeasure _ => 0x41
  | .plan => 0x48 | .readPlan => 0x49
  | .startCut => 0x50 | .suspendCut => 0x51 | .resumeCut => 0x52 | .abandonCut => 0x53
  | .takePass _ => 0x58 | .passDone _ _ => 0x59 | .passAborted _ _ => 0x5A | .toolChanged _ _ _ => 0x5B
  | .unknownCode c => c | .badPayload c => c

/-- The message codes of the notices (12.6). -/
def NoticeBody.code : NoticeBody → Byte
  | .phase _ _ => 0x81 | .liftDone _ _ _ _ _ => 0x82 | .liftFault _ _ _ _ _ _ _ => 0x83 | .scanDone _ _ => 0x84
  | .planDone _ => 0x85 | .cutState _ _ _ _ _ _ => 0x86 | .toolOut _ _ => 0x87 | .recordChanged _ _ => 0x88
  | .halted _ _ => 0x89

end Sys2Proof.Machine
end

