-- ==== Sys2Proof/Machine/Frames.lean ====
section
/-! DEFINITION. The byte layouts of Chapter 12: the CRC and the frame, the axle record image, the step and measurement
records, and the notice payloads. -/

namespace Sys2Proof.Machine

/-! ## The CRC (R188) and the frame (12.1) -/

/-- One bit of the CRC register: shift left, and add the generator x¹⁶ + x¹² + x⁵ + 1 when the top bit leaves. -/
def crcBit (c : Crc) : Crc := if c.getLsbD 15 then (c <<< 1) ^^^ 0x1021#16 else c <<< 1

/-- Feeds one byte, most significant bit first. -/
def crcByte (c : Crc) (b : Byte) : Crc :=
  let c0 := c ^^^ (b.setWidth 16 <<< 8)
  crcBit (crcBit (crcBit (crcBit (crcBit (crcBit (crcBit (crcBit c0)))))))

/-- The CRC over bytes: the register starts at all ones and the result is not inverted (R188). -/
def crcOf (bs : List Byte) : Crc := bs.foldl crcByte 0xFFFF#16

def startMarker : Byte := 0xA5

/-- The largest payload of one frame (12.1). -/
def maxPayload : Nat := 240

/-- The frame type byte (12.1): the type in bits 1..0, CONTINUED in bit 6, the restart mark in bit 7. -/
def frameTypeByte (kind : Nat) (continued restart : Bool) : Byte :=
  BitVec.ofNat 8 (kind + boolBit continued 0x40 + boolBit restart 0x80)

def requestKind : Nat := 1
def replyKind : Nat := 2
def noticeKind : Nat := 3

/-- A whole frame: start marker, header, payload, CRC most significant byte first (12.1, R188). -/
def frameBytes (frameType code tag : Byte) (payload : List Byte) : List Byte :=
  let body := frameType :: code :: tag :: BitVec.ofNat 8 payload.length :: payload
  startMarker :: (body ++ bytesOf 2 (crcOf body).toNat)

/-! ## The axle record image (12.4) -/

/-- The flag byte of a record in a reply: bits 0..5 and the binding in bits 7..6; bit 4 is clear in a list entry. -/
def recordFlags (r : AxleRecord) (wearBit : Bool) : Nat :=
  boolBit r.truncated 1 + boolBit r.wearAlert 2 + boolBit r.remeasure 4 + boolBit r.condemned 8
    + boolBit (wearBit && r.wear.isSome) 16 + boolBit r.dirty 32 + 64 * r.binding.code

def eventKindCode : EventKind → Nat
  | .loaded => 0 | .measure _ _ _ => 1 | .verified => 2 | .verifyFail _ _ => 3 | .cut _ _ => 4 | .partialCut _ => 5
  | .excluded _ => 6

def eventWearPresent : EventKind → Bool
  | .measure _ _ (some _) => true
  | _ => false

def eventTail : EventKind → List Byte
  | .measure a b (some w) => lengthBytes a ++ lengthBytes b ++ unsignedBytes 2 w
  | .measure a b none => lengthBytes a ++ lengthBytes b
  | .verifyFail a b => oneByte (boolBit a 1 + boolBit b 2)
  | .cut t m => oneByte t ++ unsignedBytes 2 m
  | .partialCut n => oneByte n
  | .excluded r => oneByte (exclusionCode r)
  | .loaded => []
  | .verified => []

/-- A history event (12.4). -/
def eventBytes (e : HistoryEvent) : List Byte :=
  oneByte (eventKindCode e.kind + boolBit (eventWearPresent e.kind) 0x80) ++ unsignedBytes 2 e.jobNumber
    ++ lengthBytes e.odometer ++ lengthBytes e.diameterA ++ lengthBytes e.diameterB ++ eventTail e.kind

/-- The record image of a reply (12.4). -/
def recordImage (r : AxleRecord) : List Byte :=
  oneByte r.identity.length ++ r.identity ++ oneByte (recordFlags r true) ++ lengthBytes r.newDia
    ++ lengthBytes r.condemnDia ++ lengthBytes r.turnedA ++ lengthBytes r.turnedB ++ oneByte r.budget
    ++ unsignedBytes 2 ((r.wear.getD 0 : Nat) : Int) ++ oneByte r.history.length ++ r.history.flatMap eventBytes

/-- An entry of LIST_AXLES (12.4). -/
def listEntry (r : AxleRecord) : List Byte := r.identity ++ oneByte (recordFlags r false)

/-! ## The step record (12.5) -/

/-- The step record as 12.5 and R167 give it. R59 says that each step record carries the job number and the odometer reading;
12.5 has no odometer, and the model follows 12.5 (log 40). -/
def stepRecordBytes (jobNumber : Nat) (station : Station) (template : Nat) (e : StepEntry) : List Byte :=
  unsignedBytes 2 jobNumber ++ oneByte (stationNumber station) ++ oneByte e.number ++ oneByte e.kind.code
    ++ oneByte template ++ lengthBytes e.depth.l ++ lengthBytes e.target.l ++ lengthBytes e.depth.r
    ++ lengthBytes e.target.r

/-! ## The measurement record (12.5) -/

def wheelPresence (w : Wheel) : Nat :=
  boolBit w.rTap.isSome 1 + boolBit w.tip.isSome 2 + boolBit w.ft.isSome 4 + boolBit w.slope.isSome 8
    + boolBit w.span.isSome 16 + boolBit w.difference.isSome 32 + boolBit w.truncated 64

def tipBytes : Option Tip → List Byte
  | some t => unsignedBytes 2 t.index ++ lengthBytes t.y ++ lengthBytes t.r ++ signedBytes 4 t.fh
  | none => bytesOf 12 0

def slopeBytes : Option Slope → List Byte
  | some s => lengthBytes s.yTip2 ++ signedBytes 4 s.qr
  | none => bytesOf 7 0

def optQuadBytes : Option Int → List Byte
  | some v => unsignedBytes 4 v
  | none => bytesOf 4 0

/-- A wheel block of 43 bytes. -/
def wheelBytes (w : Wheel) : List Byte :=
  oneByte w.outcome.code ++ oneByte (wheelPresence w) ++ unsignedBytes 2 w.pointsKept ++ unsignedBytes 2 w.disorder
    ++ optLengthBytes w.rTap ++ tipBytes w.tip ++ optLengthBytes w.ft ++ slopeBytes w.slope
    ++ optQuadBytes (w.span.map Int.ofNat) ++ optQuadBytes w.dRoll ++ optQuadBytes w.difference

def verifyBits (m : Measurement) : Nat :=
  boolBit m.verifyDue 1
    + (match m.verifyOutcome with
       | .none => 0
       | .verified => 2
       | .verifyFail l r => 4 + boolBit l 8 + boolBit r 16)
    + boolBit m.verifyTarget.isSome 32

/-- The measurement record of 99 bytes. -/
def measurementBytes (position : Station) (m : Measurement) : List Byte :=
  oneByte (stationNumber position) ++ oneByte m.state.code ++ oneByte (endCauseCode m.endCause)
    ++ oneByte (reasonCode m.reason) ++ oneByte (reasonWheelCode m.reasonWheel) ++ oneByte (verifyBits m)
    ++ optLengthBytes m.verifyTarget ++ unsignedBytes 2 (m.agreeTol.getD 0) ++ unsignedBytes 2 (m.verifyTol.getD 0)
    ++ wheelBytes m.wheels.l ++ wheelBytes m.wheels.r

/-! ## Notice payloads (12.6) -/

/-- A position of PLAN_DONE: 7 bytes, all 0 where the position is absent (log 9). -/
def planDonePosition : Option PositionRecord → List Byte
  | none => bytesOf 7 0
  | some p => oneByte 1 ++ oneByte p.outcome.code ++ oneByte (p.used.getD 0xFF) ++ optLengthBytes p.rFinal
      ++ optByte p.stepCount

def planDoneBytes (p : Plan) : List Byte :=
  unsignedBytes 2 p.jobNumber ++ oneByte p.status.code ++ planDonePosition p.positions.one
    ++ planDonePosition p.positions.two

/-- A station of CUT_STATE: what the event did there, the step, the abort cause and the next step. -/
def stepReportBytes (r : StepReport) (next : Option Nat) : List Byte :=
  (match r with
   | .none => oneByte 0 ++ oneByte 0 ++ oneByte 0
   | .completed k => oneByte 1 ++ oneByte k ++ oneByte 0
   | .aborted k c => oneByte 2 ++ oneByte k ++ oneByte (suspendCode (some c))) ++ optByte next

def haltCauseCode : Option HaltCause → Nat
  | none => 0
  | some c => c.code

def jackPairBytes (a b : Int) : List Byte := lengthBytes a ++ lengthBytes b

def noticePayload : NoticeBody → List Byte
  | .phase previous new => oneByte previous.code ++ oneByte new.code
  | .liftDone outcome move cause command measured =>
      oneByte outcome.code ++ lengthBytes move.target ++ oneByte move.moveClass.code ++ oneByte (haltCauseCode cause)
        ++ (jacksList (jacksZip jackPairBytes command measured)).flatten
  | .liftFault cause named before spread command measured followingError =>
      oneByte cause.code
        ++ oneByte (boolBit named.j1 1 + boolBit named.j2 2 + boolBit named.j3 4 + boolBit named.j4 8)
        ++ oneByte before.code ++ lengthBytes spread
        ++ (jacksList (jacksZip (fun a b => a ++ b) (jacksZip jackPairBytes command measured)
              (jacksMap (signedBytes 4) followingError))).flatten
  | .scanDone station m => measurementBytes station m
  | .planDone p => planDoneBytes p
  | .cutState job before after cause reports next =>
      unsignedBytes 2 job ++ oneByte before.code ++ oneByte after.code ++ oneByte (suspendCode cause)
        ++ stepReportBytes reports.one next.one ++ stepReportBytes reports.two next.two
  | .toolOut station side => oneByte (stationNumber station) ++ oneByte (sideCode side)
  | .recordChanged identity changes => identity ++ oneByte changes.code
  | .halted raised causes => oneByte raised.code ++ oneByte causes.code

end Sys2Proof.Machine
end

