-- ==== Sys2Proof/Machine/Transmit.lean ====
section
/-! DEFINITION. Sending: posting notices on the ports that subscribe (R194, R195), choosing the next frame (R193, R204),
and the frame in which every command runs. -/

namespace Sys2Proof.Machine

/-! ## Notices (R194, R195) -/

/-- The subscription table of R194. -/
def subscribes : NoticeBody → PortId → Bool
  | .phase _ _, _ => true
  | .liftDone _ _ _ _ _, p => p == .console
  | .liftFault _ _ _ _ _ _ _, p => p == .console
  | .scanDone _ _, _ => true
  | .planDone _, p => p != .lathe
  | .cutState _ _ _ _ _ _, _ => true
  | .toolOut _ _, p => p != .depot
  | .recordChanged _ _, p => p == .depot
  | .halted _ _, _ => true

/-- The notices a queue holds at most (R195). -/
def queueLimit : Nat := 8

/-- Posts a notice to one port: its notice number rises, and the notice is queued, or dropped with LOST where the queue
holds 8 (R194, R195). -/
def postToPort (q : Port) (n : NoticeBody) : Port :=
  let number := q.noticeNumber + 1
  if q.queue.length < queueLimit then { q with noticeNumber := number, queue := q.queue ++ [⟨number, n⟩] }
  else { q with noticeNumber := number, lost := true }

/-- Posts a notice on each port whose role subscribes to its kind (R194). -/
def post (n : NoticeBody) (s : State) : State :=
  let put := fun (id : PortId) (q : Port) => if subscribes n id then postToPort q n else q
  { s with ports := ⟨put .depot s.ports.depot, put .lathe s.ports.lathe, put .console s.ports.console⟩ }

/-- Posts a notice where there is one. -/
def postIf (c : Bool) (n : NoticeBody) (s : State) : State := if c then post n s else s

/-! ## The transmitter (R193, R204) -/

/-- The payload of a reply: the result code, then the fields of its rule (R192). -/
def replyPayload (r : Reply) : List Byte := oneByte r.answer.result.code ++ r.answer.contents

/-- The frame of a reply of at most 240 bytes, the first part of a longer one, or its second part (R204). -/
def replyFrame (r : Reply) : ReplyPart → List Byte
  | .whole => frameBytes (frameTypeByte replyKind false r.restart) r.code r.tag (replyPayload r)
  | .first => frameBytes (frameTypeByte replyKind true r.restart) r.code r.tag ((replyPayload r).take maxPayload)
  | .second => frameBytes (frameTypeByte replyKind false r.restart) r.code r.tag ((replyPayload r).drop maxPayload)

/-- The frame of a notice; it carries the restart mark that stands when it is sent (R196). -/
def noticeFrame (restart : Bool) (n : Notice) : List Byte :=
  frameBytes (frameTypeByte noticeKind false restart) n.body.code n.number (noticePayload n.body)

/-- The part of a reply that is sent first (R204). -/
def firstPart (r : Reply) : ReplyPart := if maxPayload < (replyPayload r).length then .first else .whole

/-- An IDLE transmitter chooses the next frame: a reply that has not begun, else the oldest notice (R193). -/
def startPort (q : Port) : Port :=
  match q.transmitter with
  | .idle =>
    match q.reply with
    | some r => { q with transmitter := .sendingReply (firstPart r), sending := replyFrame r (firstPart r) }
    | none =>
      match q.queue with
      | n :: rest => { q with transmitter := .sendingNotice, sending := noticeFrame q.restart n, queue := rest }
      | [] => q
  | _ => q

/-- Every IDLE transmitter chooses. This comes after the whole event: no notice leaves a queue within one event
(R195), and a reply goes before the notices of its own request (R193). -/
def startTransmitters (s : State) : State :=
  { s with ports := ⟨startPort s.ports.depot, startPort s.ports.lathe, startPort s.ports.console⟩ }

/-! ## The frame of a command -/

/-- Every event runs in this frame. While reset is asserted the part takes nothing (R196). Otherwise `f` takes the event
whole, and then the idle transmitters choose. The machine always goes on. -/
def takeEvent (f : State → State) (s : State) : Host.Outcome State Fault Refusal :=
  if s.inReset then .next s else .next (startTransmitters (f s))

end Sys2Proof.Machine
end

