-- ==== Sys2Proof/Machine/Flags.lean ====
section
/-! DEFINITION. The flag computations: the cause set (R13, R14), the cut permits (R8), the change sets (R35), and the
flags of a port (R187, R189, R197). -/

namespace Sys2Proof.Machine

/-! ## The cause set -/

def CauseSet.none : CauseSet := ⟨false, false, false, false, false⟩

def CauseSet.nonempty (c : CauseSet) : Bool := c.estop || c.tilt || c.follow || c.settle || c.support

def CauseSet.has (c : CauseSet) : HaltCause → Bool
  | .estop => c.estop
  | .tilt => c.tilt
  | .follow => c.follow
  | .settle => c.settle
  | .support => c.support

def CauseSet.add (c : CauseSet) : HaltCause → CauseSet
  | .estop => { c with estop := true }
  | .tilt => { c with tilt := true }
  | .follow => { c with follow := true }
  | .settle => { c with settle := true }
  | .support => { c with support := true }

/-- The set that holds one cause (R11, step 1). -/
def CauseSet.only (c : HaltCause) : CauseSet := CauseSet.none.add c

/-! ## Clamps and permits (R1, R8) -/

/-- Whether a station counts as CLAMPED: station 2 of a single-station pit does not exist and counts as UNCLAMPED (R1). -/
def stationClamped (s : State) (st : Station) : Bool := stationExists s st && s.interlock.clamped.get st

def anyClamped (s : State) : Bool := stationClamped s .one || stationClamped s .two

/-- R8: asserted exactly while the phase is CLAMPED or CUTTING and the station is clamped. -/
def permitValue (s : State) (st : Station) : Bool :=
  (s.interlock.phase == .clamped || s.interlock.phase == .cutting) && stationClamped s st

/-- Drives the cut-permit outputs from the phase and the clamp states (R8). -/
def drivePermits (s : State) : State :=
  { s with interlock := { s.interlock with permits := ⟨permitValue s .one, permitValue s .two⟩ } }

/-! ## Change sets (R35) -/

def ChangeSet.none : ChangeSet := ⟨false, false, false, false, false, false⟩

def ChangeSet.nonempty (c : ChangeSet) : Bool :=
  c.history || c.budget || c.diameters || c.wear || c.flags || c.binding

/-- The change set of a change of binding alone (R38). -/
def ChangeSet.bindingOnly : ChangeSet := { ChangeSet.none with binding := true }

/-- The change set of a history append that may change a flag (R42, R43). -/
def ChangeSet.historyAnd (flags : Bool) : ChangeSet := { ChangeSet.none with history := true, flags := flags }

/-! ## Port flags -/

def setFraming (q : Port) : Port := { q with framing := true }

def setOverrun (q : Port) : Port := { q with overrun := true }

/-- READ_STATUS clears LOST, FRAMING, OVERRUN and the restart mark of the port that asked (R197). -/
def clearPortFlags (q : Port) : Port := { q with lost := false, framing := false, overrun := false, restart := false }

end Sys2Proof.Machine
end

