-- ==== Sys2Proof/Machine/Operands.lean ====
section
/-! DEFINITION. The operands of requests: folding of identities (R22, R23, R24) and the reading of a request's payload
(Sections 12.2 and 12.4, R203). -/

namespace Sys2Proof.Machine

/-! ## Folding -/

/-- The length of a folded identity (R23). -/
def foldedLength : Nat := 20

/-- A byte that makes a request FORM (R22): below 0x20, or 0x7F and above. -/
def foldRefuses (b : Byte) : Bool := b.toNat < 0x20 || 0x7F ≤ b.toNat

/-- A byte that folding drops (R22): '-', ' ', '/' and '.'. -/
def foldDrops (b : Byte) : Bool := b.toNat == 0x2D || b.toNat == 0x20 || b.toNat == 0x2F || b.toNat == 0x2E

/-- A kept byte: a lowercase letter becomes its uppercase letter (R22). -/
def foldByte (b : Byte) : Byte := if 0x61 ≤ b.toNat ∧ b.toNat ≤ 0x7A then b - 0x20 else b

/-- The bytes that folding keeps, in order (R22). -/
def foldKept (bs : List Byte) : List Byte := (bs.filter (fun b => !foldDrops b)).map foldByte

/-- Folding (R22, R23); none where the request is answered FORM. -/
def fold (bs : List Byte) : Option Folded :=
  let kept := foldKept bs
  if bs.length < 1 ∨ 32 < bs.length ∨ bs.any foldRefuses ∨ kept = [] then none
  else some ⟨kept.take foldedLength ++ List.replicate (foldedLength - kept.length) 0x20, foldedLength < kept.length⟩

/-- The order of folded identities: the first unequal byte decides, as unsigned values (R24). -/
def identityLt : List Byte → List Byte → Bool
  | [], [] => false
  | [], _ :: _ => true
  | _ :: _, [] => false
  | a :: as, b :: bs => if a.toNat < b.toNat then true else if b.toNat < a.toNat then false else identityLt as bs

/-! ## Reading numbers from a payload -/

/-- The byte at an offset; the callers have checked the length. -/
def byteAt (bs : List Byte) (i : Nat) : Byte := bs.getD i 0

/-- The unsigned number of `w` bytes at an offset (R202). -/
def numberAt (bs : List Byte) (i w : Nat) : Nat := numberOf ((bs.drop i).take w)

/-- The signed number of `w` bytes at an offset (R202). -/
def signedAt (bs : List Byte) (i w : Nat) : Int := signedOf ((bs.drop i).take w)

/-! ## LOAD_AXLE (12.4, R203) -/

/-- The length of an event by its kind byte; none for a kind outside 0..6 or a wear-rate bit on another kind than
MEASURE (R203). -/
def eventLength (kindByte : Byte) : Option Nat :=
  let kind := kindByte.toNat % 16
  let wear := kindByte.getLsbD 7
  if wear && kind != 1 then none
  else match kind with
    | 0 => some 12
    | 1 => some (if wear then 20 else 18)
    | 2 => some 12
    | 3 => some 13
    | 4 => some 15
    | 5 => some 13
    | 6 => some 13
    | _ => none

/-- The kind of an event with its further fields, from the event's bytes (12.4); none for an EXCLUDED event whose reason
code names no reason. -/
def eventKindAt (e : List Byte) : Option EventKind :=
  match (byteAt e 0).toNat % 16 with
  | 0 => some .loaded
  | 1 => some (.measure (numberAt e 12 3) (numberAt e 15 3)
           (if (byteAt e 0).getLsbD 7 then some (numberAt e 18 2) else none))
  | 2 => some .verified
  | 3 => some (.verifyFail ((byteAt e 12).getLsbD 0) ((byteAt e 12).getLsbD 1))
  | 4 => some (.cut (numberAt e 12 1) (numberAt e 13 2))
  | 5 => some (.partialCut (numberAt e 12 1))
  | 6 => (exclusionOf (numberAt e 12 1)).map .excluded
  | _ => none

def eventAt (e : List Byte) : Option HistoryEvent :=
  (eventKindAt e).map fun k => ⟨k, numberAt e 1 2, numberAt e 3 3, numberAt e 6 3, numberAt e 9 3⟩

/-- Walks `n` counted events, sizing each by its kind byte; none where an event runs past the end of the payload, where
bytes are left after the counted events, or where a kind fails (R203). -/
def readEvents : (n : Nat) → List Byte → Option (List HistoryEvent)
  | 0, bs => if bs = [] then some [] else none
  | n + 1, bs =>
    match bs with
    | [] => none
    | k :: _ =>
      match eventLength k with
      | none => none
      | some len =>
        if bs.length < len then none
        else
          match eventAt (bs.take len), readEvents n (bs.drop len) with
          | some e, some es => some (e :: es)
          | _, _ => none

/-- The events that a history may hold (R20, R32). -/
def historyLimit : Nat := 12

/-- Reads a LOAD_AXLE payload (12.4). The payload must reach past the event count byte; a history that fails the walk
is answered FORM as a payload of the wrong length is (R203). -/
def readAxleImage (p : List Byte) : Option AxleImage :=
  match p with
  | [] => none
  | n0 :: rest =>
    let n := n0.toNat
    if rest.length < n + 17 then none
    else
      let h := rest.drop n
      let flags := byteAt h 0
      let count := numberAt h 16 1
      if historyLimit < count then none
      else
        (readEvents count (h.drop 17)).map fun es =>
          { identity := rest.take n
            truncated := flags.getLsbD 0
            newDia := numberAt h 1 3
            condemnDia := numberAt h 4 3
            turnedA := numberAt h 7 3
            turnedB := numberAt h 10 3
            budget := numberAt h 13 1
            wear := if flags.getLsbD 4 then some (numberAt h 14 2) else none
            wearAlert := flags.getLsbD 1
            remeasure := flags.getLsbD 2
            condemned := flags.getLsbD 3
            history := es }

/-! ## The other payloads (12.2) -/

/-- An identity: its length byte and that many bytes, filling the payload (R203). -/
def readIdentity (p : List Byte) : Option (List Byte) :=
  match p with
  | [] => none
  | n :: rest => if rest.length = n.toNat then some rest else none

/-- SET_JOB (12.2, R203). -/
def readJobFields (p : List Byte) : Option JobFields :=
  if p.length < 14 then none
  else
    let n1 := numberAt p 13 1
    let rest := p.drop (14 + n1)
    if p.length < 14 + n1 + 2 then none
    else
      let n2 := numberAt rest 1 1
      if rest.length = 2 + n2 then
        some { jobNumber := numberAt p 0 2
               odometer := numberAt p 2 3
               mode := numberAt p 5 1
               defaultTemplate := numberAt p 6 1
               upperIndex := numberAt p 7 1
               bias := signedAt p 8 1
               supportHeight := numberAt p 9 3
               orientation1 := numberAt p 12 1
               identity1 := (p.drop 14).take n1
               orientation2 := numberAt rest 0 1
               identity2 := (rest.drop 2).take n2 }
      else none

/-- A whole number of template points of 7 bytes each (12.2). -/
def readPoints : (fuel : Nat) → List Byte → Option (List TemplatePoint)
  | _, [] => some []
  | 0, _ :: _ => none
  | fuel + 1, bs =>
    if bs.length < 7 then none
    else (readPoints fuel (bs.drop 7)).map fun ps => ⟨numberAt bs 0 3, signedAt bs 3 4⟩ :: ps

/-- LOAD_TEMPLATE: the index and the template (12.2, R203). -/
def readTemplateFields (p : List Byte) : Option (Nat × TemplateFields) :=
  if p.length < 13 then none
  else (readPoints p.length (p.drop 13)).map fun ps =>
    (numberAt p 0 1,
      { name := (p.drop 1).take 8, ftNom := numberAt p 9 3, count := numberAt p 12 1, points := ps })

/-- LOAD_DISPOSITION (12.2, R203). -/
def readDispositionFields (p : List Byte) : Option DispositionFields :=
  if p.length < 6 then none
  else some { lower := numberAt p 0 3, width := numberAt p 3 2, count := numberAt p 5 1
              codes := (p.drop 6).map BitVec.toNat }

/-- A payload made only of fixed fields has the sum of their widths (R203). -/
def ifLength (p : List Byte) (n : Nat) (r : Request) : Option Request := if p.length = n then some r else none

/-- The request that a message code and a payload spell. A payload whose length is not the one its fields require, or
that its owner's layout cannot be read from, gives `badPayload` (R190 row 3, R202, R203). -/
def readRequest (code : Byte) (p : List Byte) : Request :=
  let orBad := fun (r : Option Request) => r.getD (.badPayload code)
  match code.toNat with
  | 0x01 => orBad ((readAxleImage p).map .loadAxle)
  | 0x02 => orBad ((readIdentity p).map .readAxle)
  | 0x03 => orBad ((readIdentity p).map .unloadAxle)
  | 0x04 => orBad (ifLength p 1 (.listAxles (numberAt p 0 1)))
  | 0x10 => orBad ((readJobFields p).map .setJob)
  | 0x11 => orBad (ifLength p 0 .closeJob)
  | 0x18 => orBad ((readTemplateFields p).map fun t => .loadTemplate t.1 t.2)
  | 0x19 => orBad (ifLength p 1 (.readTemplate (numberAt p 0 1)))
  | 0x1A => orBad ((readDispositionFields p).map .loadDisposition)
  | 0x1B => orBad (ifLength p 0 .readDisposition)
  | 0x20 => orBad (ifLength p 6 (.setConfig (numberAt p 0 1) (numberAt p 1 1) (signedAt p 2 4)))
  | 0x21 => orBad (ifLength p 0 .readConfig)
  | 0x22 => orBad (ifLength p 0 .readStatus)
  | 0x30 => orBad (ifLength p 1 (.clampRequest (numberAt p 0 1)))
  | 0x31 => orBad (ifLength p 1 (.unclampReport (numberAt p 0 1)))
  | 0x32 => orBad (ifLength p 0 .ackFault)
  | 0x38 => orBad (ifLength p 4 (.liftMove (numberAt p 0 3) (numberAt p 3 1)))
  | 0x39 => orBad (if p = [0] then some .liftStopDecel else if p = [1] then some .liftStopImmediate else none)
  | 0x40 => orBad (ifLength p 1 (.startMeasure (numberAt p 0 1)))
  | 0x41 => orBad (ifLength p 1 (.readMeasure (numberAt p 0 1)))
  | 0x48 => orBad (ifLength p 0 .plan)
  | 0x49 => orBad (ifLength p 0 .readPlan)
  | 0x50 => orBad (ifLength p 0 .startCut)
  | 0x51 => orBad (ifLength p 0 .suspendCut)
  | 0x52 => orBad (ifLength p 0 .resumeCut)
  | 0x53 => orBad (ifLength p 0 .abandonCut)
  | 0x58 => orBad (ifLength p 1 (.takePass (numberAt p 0 1)))
  | 0x59 => orBad (ifLength p 2 (.passDone (numberAt p 0 1) (numberAt p 1 1)))
  | 0x5A => orBad (ifLength p 2 (.passAborted (numberAt p 0 1) (numberAt p 1 1)))
  | 0x5B => orBad (ifLength p 3 (.toolChanged (numberAt p 0 1) (numberAt p 1 1) (numberAt p 2 1)))
  | _ => .unknownCode code

end Sys2Proof.Machine
end

