-- ==== Sys2Proof/Machine/Records.lean ====
section
/-! DEFINITION. The Record Store (Chapter 2): the store requests, the history ring, the changes made by the part, and the
wear rate. -/

namespace Sys2Proof.Machine

/-! ## Answers -/

/-- A refusal that carries its result code alone and leaves the state as it was (R192). -/
def refuse (r : Result) (s : State) : State × Answer := (s, ⟨r, []⟩)

/-- A refusal that names something after its result code (R202). -/
def refuseWith (r : Result) (fields : List Byte) (s : State) : State × Answer := (s, ⟨r, fields⟩)

/-- OK with its contents. -/
def answerOk (contents : List Byte) (s : State) : State × Answer := (s, ⟨.ok, contents⟩)

/-! ## The store -/

/-- The records the store holds at most (R21). -/
def storeLimit : Nat := 48

/-- The record with a folded identity (R24). -/
def findRecord (identity : List Byte) (store : List AxleRecord) : Option AxleRecord :=
  store.find? (fun r => r.identity == identity)

/-- Places a record by its folded identity: it replaces the record with an equal identity, or is inserted at its place
in ascending order (R21, R26). -/
def placeRecord (r : AxleRecord) : List AxleRecord → List AxleRecord
  | [] => [r]
  | x :: xs =>
    if r.identity = x.identity then r :: xs
    else if identityLt r.identity x.identity then r :: x :: xs
    else x :: placeRecord r xs

/-- Removes the record with a folded identity (R29). -/
def removeRecord (identity : List Byte) (store : List AxleRecord) : List AxleRecord :=
  store.filter (fun r => r.identity != identity)

/-- The store index of a folded identity, counted from 0 (R21). -/
def storeIndex (identity : List Byte) : List AxleRecord → Nat
  | [] => 0
  | x :: xs => if x.identity = identity then 0 else storeIndex identity xs + 1

/-- Changes the record with a folded identity and leaves every other record as it stands. -/
def changeRecord (identity : List Byte) (f : AxleRecord → AxleRecord) (store : List AxleRecord) : List AxleRecord :=
  store.map (fun r => if r.identity = identity then f r else r)

/-- The job's entry for a position (R45). -/
def jobPosition (s : State) (st : Station) : Option JobPosition :=
  s.job.bind fun j => match st with
    | .one => some j.position1
    | .two => j.position2

/-- The record bound to a position. -/
def boundRecord (s : State) (st : Station) : Option AxleRecord :=
  (jobPosition s st).bind fun p => findRecord p.identity s.store

/-! ## Validity (R20, R33, R34) -/

def inRange (lo hi n : Int) : Bool := decide (lo ≤ n) && decide (n ≤ hi)

/-- The further fields of an event lie in the ranges of R34. -/
def eventKindValid : EventKind → Bool
  | .loaded => true
  | .measure a b w => inRange 0 160000 a && inRange 0 160000 b && (w.all fun x => decide (x ≤ 65535))
  | .verified => true
  | .verifyFail a b => a || b
  | .cut t m => decide (t ≤ 7) && inRange 0 65535 m
  | .partialCut n => decide (1 ≤ n) && decide (n ≤ 7)
  | .excluded _ => true

/-- R33. -/
def eventValid (e : HistoryEvent) : Bool :=
  (inRange 1 65535 e.jobNumber || (e.jobNumber == 0 && e.kind == .loaded))
    && decide (e.odometer ≤ 9999999) && inRange 0 2000000 e.diameterA && inRange 0 2000000 e.diameterB
    && eventKindValid e.kind

/-- The checks of R25 on the fields of a LOAD_AXLE. -/
def imageValid (i : AxleImage) : Bool :=
  inRange 600000 1250000 i.newDia && decide (400000 ≤ i.condemnDia) && decide (i.condemnDia < i.newDia)
    && inRange i.condemnDia i.newDia i.turnedA && inRange i.condemnDia i.newDia i.turnedB && decide (i.budget ≤ 15)
    && (i.wear.all fun x => decide (x ≤ 65535)) && decide (i.history.length ≤ historyLimit)
    && i.history.all eventValid

/-! ## The store requests -/

/-- The LOADED event of a LOAD_AXLE that supplies no history (R27). -/
def loadedEvent (i : AxleImage) : HistoryEvent := ⟨.loaded, 0, 0, i.turnedA, i.turnedB⟩

/-- The record that a LOAD_AXLE places (R23, R26, R27). -/
def loadedRecord (i : AxleImage) (f : Folded) : AxleRecord where
  identity := f.identity
  truncated := f.truncated || i.truncated
  newDia := i.newDia
  condemnDia := i.condemnDia
  turnedA := i.turnedA
  turnedB := i.turnedB
  budget := i.budget
  wear := i.wear
  dirty := false
  wearAlert := i.wearAlert
  remeasure := i.remeasure
  condemned := i.condemned
  binding := .none
  history := if i.history = [] then [loadedEvent i] else i.history

/-- The OK reply to LOAD_AXLE: the outcome, 0 INSERTED or 1 REPLACED, the folded identity, the store index, the fold
report and the record count (12.4). -/
def loadReply (outcome : Nat) (f : Folded) (store : List AxleRecord) : List Byte :=
  oneByte outcome ++ f.identity ++ oneByte (storeIndex f.identity store) ++ boolByte f.truncated
    ++ oneByte store.length

/-- LOAD_AXLE (R25, R26). -/
def serveLoadAxle (i : AxleImage) (s : State) : State × Answer :=
  match fold i.identity with
  | none => refuse .form s
  | some f =>
    if !imageValid i then refuse .form s
    else
      let store := placeRecord (loadedRecord i f) s.store
      match findRecord f.identity s.store with
      | some held =>
        if held.binding != .none then refuse .bound s
        else answerOk (loadReply 1 f store) { s with store := store }
      | none =>
        if storeLimit ≤ s.store.length then refuse .full s
        else answerOk (loadReply 0 f store) { s with store := store }

/-- The contents of the OK replies to READ_AXLE and UNLOAD_AXLE: the fold report and the record image (12.4). -/
def readReply (f : Folded) (r : AxleRecord) : List Byte := boolByte f.truncated ++ recordImage r

/-- READ_AXLE (R28): the reply shows DIRTY as it stood, then DIRTY is cleared. -/
def serveReadAxle (identity : List Byte) (s : State) : State × Answer :=
  match fold identity with
  | none => refuse .form s
  | some f =>
    match findRecord f.identity s.store with
    | none => refuse .notFound s
    | some r =>
      answerOk (readReply f r) { s with store := changeRecord f.identity (fun x => { x with dirty := false }) s.store }

/-- UNLOAD_AXLE (R29). -/
def serveUnloadAxle (identity : List Byte) (s : State) : State × Answer :=
  match fold identity with
  | none => refuse .form s
  | some f =>
    match findRecord f.identity s.store with
    | none => refuse .notFound s
    | some r =>
      if r.binding != .none then refuse .bound s
      else answerOk (readReply f r) { s with store := removeRecord f.identity s.store }

/-- The entries a LIST_AXLES reply carries at most (R30). -/
def listWindow : Nat := 8

/-- LIST_AXLES (R30). -/
def serveListAxles (start : Nat) (s : State) : State × Answer :=
  if 47 < start then refuse .form s
  else
    let entries := (s.store.drop start).take listWindow
    answerOk (oneByte s.store.length ++ oneByte start ++ oneByte entries.length ++ entries.flatMap listEntry) s

/-! ## The history ring (R32) -/

/-- Appends an event: a full ring loses its oldest event at the same append (R32). -/
def ringAppend (h : List HistoryEvent) (e : HistoryEvent) : List HistoryEvent :=
  (h ++ [e]).drop ((h ++ [e]).length - historyLimit)

/-- An append by the part: the event is placed and DIRTY is set (R35). -/
def appendEvent (e : HistoryEvent) (r : AxleRecord) : AxleRecord :=
  { r with history := ringAppend r.history e, dirty := true }

/-- An event of the open job (R33). -/
def jobEvent (j : Job) (kind : EventKind) (diameterA diameterB : Int) : HistoryEvent :=
  ⟨kind, j.number, j.odometer, diameterA, diameterB⟩

/-- The value at record end A: the wheel on side L under A_ON_L, on side R under A_ON_R (R49). -/
def endA {α : Type} (o : Orientation) (v : Sides α) : α :=
  match o with
  | .aOnL => v.l
  | .aOnR => v.r

/-- The value at record end B (R49). -/
def endB {α : Type} (o : Orientation) (v : Sides α) : α :=
  match o with
  | .aOnL => v.r
  | .aOnR => v.l

/-! ## Wear rate (R40, R41) -/

def isCutEvent (e : HistoryEvent) : Bool :=
  match e.kind with
  | .cut _ _ => true
  | _ => false

/-- The newest CUT event of a history (R40). -/
def newestCut (h : List HistoryEvent) : Option HistoryEvent := h.reverse.find? isCutEvent

/-- The wear rate of R40, or none where no rate is computed. -/
def wearRate (h : List HistoryEvent) (dNow : Int) (kmNow : Nat) : Option Nat :=
  match newestCut h with
  | none => none
  | some c =>
    let dCut := minInt c.diameterA c.diameterB
    if c.odometer < kmNow ∧ dNow ≤ dCut then
      some (minInt 65535 ((dCut - dNow) * 10000 / ((kmNow : Int) - (c.odometer : Int)))).toNat
    else none

/-- WEAR_ALERT as each computed rate decides it (R41). -/
def wearAlertAfter (alertRate : Int) (rate : Option Nat) (held : Bool) : Bool :=
  match rate with
  | none => held
  | some w => if alertRate = 0 then held else decide (alertRate < (w : Int))

/-! ## Changes made by the part (R35 to R43) -/

/-- The MEASURE append of R39. -/
def measureRecord (j : Job) (o : Orientation) (diameter ft : Sides Int) (alertRate : Int) (r : AxleRecord) :
    AxleRecord :=
  let dA := endA o diameter
  let dB := endB o diameter
  let rate := wearRate r.history (minInt dA dB) j.odometer
  let appended := appendEvent (jobEvent j (.measure (endA o ft) (endB o ft) rate) dA dB) r
  { appended with
    wear := rate.orElse (fun _ => r.wear)
    wearAlert := wearAlertAfter alertRate rate r.wearAlert
    remeasure := false }

/-- The change set of R39: HISTORY, WEAR if the wear rate changed, FLAGS if a flag changed. -/
def measureChanges (before after : AxleRecord) : ChangeSet :=
  { ChangeSet.none with
    history := true
    wear := before.wear != after.wear
    flags := before.wearAlert != after.wearAlert || before.remeasure != after.remeasure }

/-- The VERIFIED append: REMEASURE is cleared (R43, R118). -/
def verifiedRecord (j : Job) (o : Orientation) (diameter : Sides Int) (r : AxleRecord) : AxleRecord :=
  { appendEvent (jobEvent j .verified (endA o diameter) (endB o diameter)) r with remeasure := false }

/-- The VERIFY_FAIL append, naming the record ends of the failed sides; REMEASURE stays (R43, R118). -/
def verifyFailRecord (j : Job) (o : Orientation) (diameter : Sides Int) (failed : Sides Bool) (r : AxleRecord) :
    AxleRecord :=
  appendEvent (jobEvent j (.verifyFail (endA o failed) (endB o failed)) (endA o diameter) (endB o diameter)) r

/-- The budget decrement of R36. -/
def spendBudget (r : AxleRecord) : AxleRecord := { r with budget := r.budget - 1, dirty := true }

/-- The finish booking of R37. -/
def finishRecord (j : Job) (rFinal : Int) (template : Nat) (largestRemoval : Int) (r : AxleRecord) : AxleRecord :=
  let turned := minInt (2 * rFinal) r.newDia
  { appendEvent (jobEvent j (.cut template largestRemoval) (2 * rFinal) (2 * rFinal)) r with
    turnedA := turned
    turnedB := turned
    remeasure := true }

/-- The PARTIAL_CUT append of R180: REMEASURE is set (R43). -/
def partialCutRecord (j : Job) (completed : Nat) (r : AxleRecord) : AxleRecord :=
  { appendEvent (jobEvent j (.partialCut completed) r.turnedA r.turnedB) r with remeasure := true }

/-- An exclusion that condemns (R42). -/
def condemns : ExclusionReason → Bool
  | .condemn => true
  | .matchCondemn => true
  | .exchange => true
  | _ => false

/-- The EXCLUDED append of R156, with CONDEMNED as R42 gives. -/
def excludedRecord (j : Job) (o : Orientation) (diameter : Sides Int) (reason : ExclusionReason) (r : AxleRecord) :
    AxleRecord :=
  { appendEvent (jobEvent j (.excluded reason) (endA o diameter) (endB o diameter)) r with
    condemned := r.condemned || condemns reason }

/-- Changes the record bound to a position, if there is one, and posts its RECORD_CHANGED after the change (R35). -/
def changeBound (st : Station) (f : AxleRecord → AxleRecord) (changes : AxleRecord → AxleRecord → ChangeSet)
    (s : State) : State :=
  match boundRecord s st with
  | none => s
  | some r =>
    post (.recordChanged r.identity (changes r (f r))) { s with store := changeRecord r.identity f s.store }

end Sys2Proof.Machine
end

