-- ==== Sys2Proof/Machine/Measure.lean ====
section
/-! DEFINITION. The Measurement Unit (Chapter 6): the wheel figures of a completed scan, the decision of the measurement
state, and the history events it hands to the Record Store. -/

namespace Sys2Proof.Machine

/-! ## Wheel figures (R108 to R114) -/

/-- The disorder count that still passes (R108). -/
def disorderLimit : Nat := 8

/-- The taping line lies within the kept points (R108). -/
def rangePasses (yTap : Int) (pts : List Point) : Bool :=
  match pts.head?, pts.getLast? with
  | some a, some b => decide (a.y ≤ yTap) && decide (yTap ≤ b.y)
  | _, _ => false

/-- The value at `y` on the line from (ya, ra) to (yb, rb), rounded to nearest, halves up, for ya < yb (R109). -/
def lineValue (ya ra yb rb y : Int) : Int := roundDiv (ra * (yb - ya) + (rb - ra) * (y - ya)) (yb - ya)

/-- The taping radius of R109; none where the taping line lies outside the points. -/
def tapingRadius (yTap : Int) : List Point → Option Int
  | [] => none
  | [a] => if a.y = yTap then some a.r else none
  | a :: b :: rest =>
    if a.y = yTap then some a.r
    else if a.y < yTap ∧ yTap < b.y then some (lineValue a.y a.r b.y b.r yTap)
    else tapingRadius yTap (b :: rest)

/-- The first point of largest r among the points below y_tap, with its place in the list (R110). -/
def flangePeak (yTap : Int) : (index : Nat) → (best : Option (Nat × Point)) → List Point → Option (Nat × Point)
  | _, best, [] => best
  | i, best, p :: rest =>
    let better : Bool := match best with
      | none => true
      | some (_, q) => decide (q.r < p.r)
    flangePeak yTap (i + 1) (if p.y < yTap && better then some (i, p) else best) rest

/-- The crossing search of R111 for a level, over the points from the tip outward. -/
def crossing (level : Int) : List Point → Option Int
  | [] => none
  | [_] => none
  | a :: b :: rest =>
    if level ≤ a.r ∧ b.r < level then
      some (roundDiv (a.y * (a.r - b.r) + (b.y - a.y) * (a.r - level)) (a.r - b.r))
    else crossing level (b :: rest)

/-- The capture span: the fifth capture less the first, modulo 4,294,967,296 (R114). -/
def captureSpan (captures : List RollerCount) : Nat := (captures.getD 4 0 - captures.getD 0 0).toNat

/-- The roller diameter of R114, held at 4,294,967,295 above it. -/
def rollerDiameter (rollerDia counts : Int) (span : Nat) : Int :=
  minInt 4294967295 (roundDiv (rollerDia * span) (counts * 4))

/-- What the hand-over of R101 stores for a wheel before any figure is computed (R107). -/
def handedWheel (sd : ScanSide) : Wheel :=
  { Wheel.reset with pointsKept := sd.points.length, disorder := sd.disorder, truncated := sd.truncated }

/-- Roller diameter and agreement, the last check of a wheel (R114). -/
def agreeWheel (i : WheelInputs) (sd : ScanSide) (rTap : Int) (w : Wheel) : Wheel :=
  let span := captureSpan sd.captures
  let dRoll := rollerDiameter i.rollerDia i.counts span
  let difference := magnitude (2 * rTap - dRoll)
  { w with
    span := some span
    dRoll := some dRoll
    difference := some difference
    outcome := if i.agreeTol < difference then .agreement else .pass }

/-- Flange thickness and slope of a wheel whose tip is found (R112, R113). -/
def faceWheel (i : WheelInputs) (sd : ScanSide) (rTap : Int) (tip : Tip) (w : Wheel) : Wheel :=
  let outward := sd.points.drop tip.index
  match crossing (rTap + i.hRef) outward with
  | none => { w with outcome := .noFace }
  | some yFace =>
    let withFt := { w with ft := some yFace }
    match crossing (tip.r - i.qrOffset) outward with
    | none => { withFt with outcome := .noFace }
    | some yTip2 => agreeWheel i sd rTap { withFt with slope := some ⟨yTip2, yFace - yTip2⟩ }

/-- The flange tip of a wheel whose taping radius is found (R110). -/
def tipWheel (i : WheelInputs) (sd : ScanSide) (rTap : Int) (w : Wheel) : Wheel :=
  match flangePeak i.yTap 0 none sd.points with
  | none => { w with outcome := .noFlange }
  | some (index, p) =>
    let tip : Tip := ⟨index, p.y, p.r, p.r - rTap⟩
    faceWheel i sd rTap tip { w with tip := some tip }

/-- One wheel of a completed scan: the checks in order, the first failing check giving the outcome (R107 to R114). -/
def computeWheel (i : WheelInputs) (sd : ScanSide) : Wheel :=
  let w := handedWheel sd
  if disorderLimit < sd.disorder then { w with outcome := .disorder }
  else if !rangePasses i.yTap sd.points then { w with outcome := .range }
  else
    match tapingRadius i.yTap sd.points with
    | none => { w with outcome := .range }
    | some rTap => tipWheel i sd rTap { w with rTap := some rTap }

/-! ## The decision (R115, R118) -/

/-- The reason a failed wheel gives; none for a wheel that passed. -/
def wheelReason : WheelOutcome → Option Reason
  | .disorder => some .disorder
  | .range => some .range
  | .noFlange => some .noFlange
  | .noFace => some .noFace
  | .agreement => some .agreement
  | .pass => none
  | .none => none

/-- The reason and the reason wheel: wheel L is looked at first (R115). -/
def decideReason (w : Sides Wheel) : Option (Reason × Side) :=
  match wheelReason w.l.outcome with
  | some r => some (r, .l)
  | none => (wheelReason w.r.outcome).map fun r => (r, .r)

/-- The state that a reason decides (R115). -/
def decideState : Option (Reason × Side) → MeasureState
  | none => .valid
  | some (.agreement, _) => .disagree
  | some _ => .invalid

/-- The inputs of the wheel on one side at a station (R107). -/
def wheelInputs (s : State) (st : Station) (sd : Side) : WheelInputs where
  yTap := s.config.yTap
  hRef := s.config.hRef
  qrOffset := s.config.qrOffset
  rollerDia := (s.config.rollerDia.get st).get sd
  counts := (s.config.rollerCounts.get st).get sd
  agreeTol := (s.measurements.get st).agreeTol.getD 0

/-- Whether a wheel lies within the verify tolerance of the target (R118). -/
def wheelVerified (target tol : Int) (w : Wheel) : Bool := decide (magnitude (w.rTap.getD 0 - target) ≤ tol)

/-- The verification outcome of a VALID scan with verification due (R118). -/
def verifyOutcomeOf (m : Measurement) (w : Sides Wheel) : VerifyOutcome :=
  let passes := w.map (wheelVerified (m.verifyTarget.getD 0) (m.verifyTol.getD 0))
  if passes.l && passes.r then .verified else .verifyFail (!passes.l) (!passes.r)

/-- The measurement record of a completed scan as decided (R107, R115, R118), before verification due is cleared. -/
def completedMeasurement (s : State) (st : Station) : Measurement :=
  let sides := (s.scans.get st).sides
  let m := s.measurements.get st
  let w : Sides Wheel := ⟨computeWheel (wheelInputs s st .l) sides.l, computeWheel (wheelInputs s st .r) sides.r⟩
  let reason := decideReason w
  let state := decideState reason
  { m with
    state := state
    endCause := some .complete
    reason := reason.map Prod.fst
    reasonWheel := reason.map Prod.snd
    verifyOutcome := if state == .valid && m.verifyDue then verifyOutcomeOf m w else .none
    wheels := w }

/-- The reason of a scan that ended early (R107). -/
def earlyReason : EndCause → Option Reason
  | .timeout => some .timeout
  | .clampLost => some .clampLost
  | .halt => some .halt
  | .complete => none

/-- The measurement record of a scan ended by its timer, an unclamp or a halt (R107). -/
def endedMeasurement (s : State) (st : Station) (cause : EndCause) : Measurement :=
  let sides := (s.scans.get st).sides
  { s.measurements.get st with
    state := .invalid
    endCause := some cause
    reason := earlyReason cause
    reasonWheel := none
    verifyOutcome := .none
    wheels := ⟨handedWheel sides.l, handedWheel sides.r⟩ }

/-! ## Handing on (R116, R118) -/

/-- The measured diameters by pit side (R109). -/
def measuredDiameters (m : Measurement) : Sides Int := m.wheels.map fun w => 2 * w.rTap.getD 0

/-- The flange thicknesses by pit side. -/
def measuredFt (m : Measurement) : Sides Int := m.wheels.map fun w => w.ft.getD 0

/-- The MEASURE event of an ordinary VALID measurement (R116). -/
def appendMeasure (st : Station) (m : Measurement) (s : State) : State :=
  match s.job, jobPosition s st with
  | some j, some p =>
    changeBound st
      (measureRecord j p.orientation (measuredDiameters m) (measuredFt m) s.config.wearAlertRate) measureChanges s
  | _, _ => s

/-- A change set of HISTORY, and FLAGS if REMEASURE changed (R35, R43). -/
def remeasureChanges (before after : AxleRecord) : ChangeSet :=
  ChangeSet.historyAnd (before.remeasure != after.remeasure)

/-- The VERIFIED or VERIFY_FAIL event of a verification (R118). -/
def appendVerification (st : Station) (m : Measurement) (s : State) : State :=
  match s.job, jobPosition s st with
  | some j, some p =>
    match m.verifyOutcome with
    | .verified => changeBound st (verifiedRecord j p.orientation (measuredDiameters m)) remeasureChanges s
    | .verifyFail l r =>
      changeBound st (verifyFailRecord j p.orientation (measuredDiameters m) ⟨l, r⟩) remeasureChanges s
    | .none => s
  | _, _ => s

/-- Replaces a measurement record. -/
def setMeasurement (st : Station) (m : Measurement) (s : State) : State :=
  { s with measurements := s.measurements.set st m }

/-- Clears verification due and its target (R117, R118). -/
def clearVerification (m : Measurement) : Measurement := { m with verifyDue := false, verifyTarget := none }

/-- What follows the SCAN_DONE of a VALID scan: the history event, and the end of a verification (R116, R118). -/
def handOn (st : Station) (m : Measurement) (s : State) : State :=
  if m.state != .valid then s
  else if m.verifyDue then appendVerification st m (setMeasurement st (clearVerification m) s)
  else appendMeasure st m s

/-- The record at an accepted START_MEASURE (R106): emptied, with the tolerances copied; verification due and its target
are kept. -/
def startedMeasurement (s : State) (m : Measurement) : Measurement :=
  { Measurement.reset with
    state := .scanning
    agreeTol := some s.config.agreeTol
    verifyTol := some s.config.verifyTol
    verifyDue := m.verifyDue
    verifyTarget := m.verifyTarget }

/-- A completed step makes the measurement STALE (R106, R119). -/
def staleMeasurement (m : Measurement) : Measurement :=
  if m.state == .valid || m.state == .stale then { m with state := .stale } else m

/-- A finish completion sets verification due with R_final as its target (R117). -/
def dueMeasurement (rFinal : Int) (m : Measurement) : Measurement :=
  { m with verifyDue := true, verifyTarget := some rFinal }

/-- READ_MEASURE (R121). -/
def serveReadMeasure (position : Nat) (s : State) : State × Answer :=
  match stationArg s position with
  | none => refuse .form s
  | some st => answerOk (measurementBytes st (s.measurements.get st)) s

end Sys2Proof.Machine
end

