-- ==== Sys2Proof/Machine/Steps.lean ====
section
/-! DEFINITION. What the Pit Interlock and the Cut Sequencer share: steps in flight, the loss of a step (R173), and the
CUT_STATE notice (R182). -/

namespace Sys2Proof.Machine

/-- Replaces a cut context. -/
def setContext (st : Station) (c : CutContext) (s : State) : State :=
  { s with cut := { s.cut with contexts := s.cut.contexts.set st c } }

/-- Stops a step timer or starts it with its milliseconds (R168). -/
def setStepTimer (st : Station) (t : Option Nat) (s : State) : State :=
  { s with cut := { s.cut with timers := s.cut.timers.set st t } }

/-- The cut state with its cause, which only SUSPENDED has (R161). -/
def setCutState (state : CutState) (cause : Option SuspendCause) (s : State) : State :=
  { s with cut := { s.cut with state := state, cause := cause } }

/-- The step in flight at a station; none at a station that does not exist (R1, R162). -/
def stepInFlight (s : State) (st : Station) : Option Nat :=
  if stationExists s st then (s.cut.contexts.get st).inFlight else none

def anyStepInFlight (s : State) : Bool := (stepInFlight s .one).isSome || (stepInFlight s .two).isSome

/-- What losing the step in flight reports for a station (R182). -/
def abortReport (s : State) (st : Station) (cause : SuspendCause) : StepReport :=
  match stepInFlight s st with
  | some k => .aborted k cause
  | none => .none

/-- The step in flight becomes none and its timer is cancelled; everything else of the context stays, so the step stays
next (R173, steps 1 to 3). -/
def dropStep (st : Station) (s : State) : State :=
  setStepTimer st none (setContext st { s.cut.contexts.get st with inFlight := none } s)

/-- A RUNNING cut becomes SUSPENDED with the cause; any other cut stays as it is, a SUSPENDED one with its earlier cause
(R161, R173 step 4). -/
def suspendIfRunning (cause : SuspendCause) (s : State) : State :=
  if s.cut.state == .running then setCutState .suspended (some cause) s else s

/-- The job number a notice carries; 0 where no job is open. -/
def jobNumber (s : State) : Nat :=
  match s.job with
  | some j => j.number
  | none => 0

/-- Posts CUT_STATE: the cut state before and now, the cause now, and what the event did at each station (R182). The
next step of each station is carried whether or not the event touched it (log 19). -/
def postCutState (before : CutState) (reports : PerStation StepReport) (s : State) : State :=
  post (.cutState (jobNumber s) before s.cut.state s.cut.cause reports (s.cut.contexts.map CutContext.next)) s

def noReports : PerStation StepReport := ⟨.none, .none⟩

/-- The report of one station. -/
def reportAt (st : Station) (r : StepReport) : PerStation StepReport := noReports.set st r

/-- A step in flight is lost: R173 steps 1 to 5. The event re-derives the phase after it. -/
def loseStep (st : Station) (cause : SuspendCause) (s : State) : State :=
  postCutState s.cut.state (reportAt st (abortReport s st cause)) (suspendIfRunning cause (dropStep st s))

/-- The entry of a station's position record in the standing plan. -/
def planRecord (s : State) (st : Station) : Option PositionRecord := s.plan.bind fun p => p.positions.get st

def isIncluded (r : PositionRecord) : Bool := r.outcome == .included

/-- Whether the standing plan includes the axle at a position. -/
def planIncludes (s : State) (st : Station) : Bool := (planRecord s st).any isIncluded

/-- The step entry of a number in a station's step list. -/
def stepEntry (s : State) (st : Station) (number : Nat) : Option StepEntry :=
  (planRecord s st).bind fun r => r.steps.find? (fun e => e.number == number)

/-- Every lock is released (R129). -/
def releaseLocks (s : State) : State := { s with slots := s.slots.map fun x => { x with locked := false } }

/-- The plan becomes none, the contexts are emptied and the cut state becomes NONE (R48, R56, R92, R179). -/
def clearPlan (s : State) : State :=
  { s with
    plan := none
    cut := { s.cut with state := .none, cause := none, contexts := ⟨.empty, .empty⟩, timers := ⟨none, none⟩ } }

/-- The plan is discarded with its locks (R92, R56, R129). -/
def discardPlan (s : State) : State := releaseLocks (clearPlan s)

/-! ## Scans -/

def setScan (st : Station) (x : Scan) (s : State) : State := { s with scans := s.scans.set st x }

/-- Whether a scan is in flight at a station (R88). -/
def scanInFlight (s : State) (st : Station) : Bool :=
  stationExists s st && (s.scans.get st).state == .collecting

/-- The Scan Unit stops collecting and cancels its timer; everything collected is kept (R98 to R101). -/
def stopScan (st : Station) (s : State) : State :=
  setScan st { s.scans.get st with state := .idle, timer := none } s

/-- A scan in flight ends by its timer, an unclamp or a halt: the measurement becomes INVALID (R99, R100). -/
def endScan (st : Station) (cause : EndCause) (s : State) : State :=
  if scanInFlight s st then stopScan st (setMeasurement st (endedMeasurement s st cause) s) else s

/-- Posts SCAN_DONE with the measurement record as it stands (R98, R115). -/
def postScanDone (st : Station) (s : State) : State := post (.scanDone st (s.measurements.get st)) s

end Sys2Proof.Machine
end

