-- ==== Sys2Proof/Machine/Interlock.lean ====
section
/-! DEFINITION. The Pit Interlock's derivation of the phase (R1 to R4) and the halt (R11 to R15). -/

namespace Sys2Proof.Machine

/-! ## The support condition (R1, R51) -/

/-- Whether a jack's measured position lies within the configured in-position window of its support target, the support
height plus its configured trim (R1, R51). -/
def inSupportWindow (window height : Int) (a : Axis) (trim : Int) : Bool :=
  decide (magnitude (a.measured - (height + trim)) ≤ window)

/-- Which jacks lie in their support windows. -/
def supportWindows (s : State) (height : Int) : Jacks Bool :=
  jacksZip (inSupportWindow s.config.window height) s.lift.axes s.config.trims

/-- The support condition of R1 for a job: the lift is IDLE and every jack is in its window. -/
def supportHolds (s : State) (j : Job) : Bool :=
  s.lift.state == .idle && jacksAll id (supportWindows s j.supportHeight)

/-! ## The halt (R11, R15) -/

/-- Holds a phase and drives the permits. -/
def setPhase (p : Phase) (s : State) : State := drivePermits { s with interlock := { s.interlock with phase := p } }

/-- Makes the one raised cause the cause set and the phase HALTED; the clamp states are kept and the permits fall
(R11, steps 1, 2 and 5). -/
def enterHalt (cause : HaltCause) (s : State) : State :=
  setPhase .halted { s with interlock := { s.interlock with causes := .only cause } }

/-- Aborts the steps in flight at both stations; if there was one, a RUNNING cut becomes SUSPENDED with cause HALT
(R11, step 3). -/
def haltSteps (s : State) : State :=
  if anyStepInFlight s then
    let drop := fun (st : Station) (x : State) => if (stepInFlight s st).isSome then dropStep st x else x
    suspendIfRunning .halt (drop .two (drop .one s))
  else s

/-- Ends the scans in flight at both stations (R11, step 4). -/
def haltScans (s : State) : State := endScan .two .halt (endScan .one .halt s)

/-- A halt of the pit, taken whole (R11), with its notices in the order of R15. -/
def halt (cause : HaltCause) (s : State) : State :=
  let previous := s.interlock.phase
  let halted := haltScans (haltSteps (enterHalt cause s))
  let n1 := post (.halted cause halted.interlock.causes) halted
  let n2 := postIf (previous != .halted) (.phase previous .halted) n1
  let n3 := if scanInFlight s .one then postScanDone .one n2 else n2
  let n4 := if scanInFlight s .two then postScanDone .two n3 else n3
  if anyStepInFlight s then
    postCutState s.cut.state ⟨abortReport s .one .halt, abortReport s .two .halt⟩ n4
  else n4

/-- A cause raised while the phase is HALTED is added to the cause set and changes nothing else (R14). -/
def addCause (cause : HaltCause) (s : State) : State :=
  { s with interlock := { s.interlock with causes := s.interlock.causes.add cause } }

/-- A raised cause halts the pit, or joins the cause set of a HALTED pit (R10, R12). -/
def raiseCause (cause : HaltCause) (s : State) : State :=
  if s.interlock.phase == .halted then addCause cause s else halt cause s

/-! ## The derivation (R1, R2, R4) -/

/-- The first case of R1 that applies; none for case 4, where the pit halts with cause SUPPORT. -/
def derivedPhase (s : State) : Option Phase :=
  if s.interlock.causes.nonempty then some .halted
  else
    match s.job with
    | none => some .idle
    | some j =>
      if !supportHolds s j then (if anyClamped s then none else some .staged)
      else if !anyClamped s then some .supported
      else if !anyStepInFlight s then some .clamped
      else some .cutting

/-- Holds the derived phase and posts PHASE where it differs from the phase held (R2). -/
def holdPhase (p : Phase) (s : State) : State :=
  postIf (p != s.interlock.phase) (.phase s.interlock.phase p) (setPhase p s)

/-- The re-derivation of R2. Case 4 of R1 halts the pit with cause SUPPORT (R4). -/
def rederive (s : State) : State :=
  match derivedPhase s with
  | some p => holdPhase p s
  | none => halt .support s

end Sys2Proof.Machine
end

