-- ==== Sys2Proof/Machine/Lift.lean ====
section
/-! DEFINITION. The Lift Sequencer (Chapter 4): the profile generator, the checks at the jack samples, the moves, the stops
and the lift faults. -/

namespace Sys2Proof.Machine

/-! ## Readings of the lift -/

/-- A move is in flight (R64). -/
def moveInFlight : LiftState → Bool
  | .idle => false
  | .fault => false
  | _ => true

/-- Profile updates are taken (R64). -/
def takesUpdates : LiftState → Bool
  | .accel => true
  | .run => true
  | .decel => true
  | .creep => true
  | _ => false

def commands (l : Lift) : Jacks Int := jacksMap Axis.command l.axes

def measuredPositions (l : Lift) : Jacks Int := jacksMap Axis.measured l.axes

def followingErrors (l : Lift) : Jacks Int := jacksMap Axis.followingError l.axes

def moveTrims (l : Lift) : Jacks Int := jacksMap Axis.moveTrim l.axes

/-- Measured position less trim (R63). -/
def trimmedPositions (l : Lift) (trims : Jacks Int) : Jacks Int :=
  jacksZip (fun m t => m - t) (measuredPositions l) trims

/-- The spread formed with a set of trims (R63). -/
def spreadOf (l : Lift) (trims : Jacks Int) : Int :=
  jacksMax (trimmedPositions l trims) - jacksMin (trimmedPositions l trims)

/-- The spread with the configured trims (R63). -/
def configuredSpread (s : State) : Int := spreadOf s.lift s.config.trims

/-- The first jack in the order J1..J4 that a check marks, alone. -/
def firstJack (marks : Jacks Bool) : Jacks Bool :=
  ⟨marks.j1, !marks.j1 && marks.j2, !marks.j1 && !marks.j2 && marks.j3,
    !marks.j1 && !marks.j2 && !marks.j3 && marks.j4⟩

def setLift (l : Lift) (s : State) : State := { s with lift := l }

/-! ## Notices (R85) -/

/-- Posts LIFT_DONE for a move, with each jack's command and measured position at the event. -/
def postLiftDone (outcome : LiftOutcome) (m : Move) (cause : Option HaltCause) (s : State) : State :=
  post (.liftDone outcome m cause (commands s.lift) (measuredPositions s.lift)) s

/-- Posts LIFT_DONE for the working move, if there is one. -/
def postWorkingDone (working : Option Move) (outcome : LiftOutcome) (cause : Option HaltCause) (s : State) : State :=
  match working with
  | some m => postLiftDone outcome m cause s
  | none => s

/-- Empties the staged slot and posts STAGED_DROPPED where it held a move (R69). -/
def dropStaged (s : State) : State :=
  match s.lift.staged with
  | some m => postLiftDone .stagedDropped m none (setLift { s.lift with staged := none } s)
  | none => s

/-! ## The end of a move -/

/-- The lift at rest in IDLE or FAULT: speed 0, brakes applied, drives released, no settle timer, the stopping mark clear
(R62, R64, R79). -/
def restLift (state : LiftState) (l : Lift) : Lift :=
  { l with
    state := state, working := none, stopping := false, speed := 0, remainder := 0, settleTimer := none
    brakesApplied := true, drivesEnabled := false }

/-- The move targets are set to none (R77, R80, R83). -/
def clearTargets (l : Lift) : Lift := { l with axes := jacksMap (fun a => { a with target := none }) l.axes }

/-- Ends the working move short of its target: LIFT_DONE STOPPED_SHORT, then STAGED_DROPPED (R79 to R81). -/
def endShort (s : State) : State :=
  dropStaged
    (postWorkingDone s.lift.working .stoppedShort none (setLift (clearTargets (restLift .idle s.lift)) s))

/-- The immediate stop (R80), which changes nothing in IDLE and FAULT (R81). -/
def stopImmediately (s : State) : State := if moveInFlight s.lift.state then endShort s else s

/-- The deceleration stop (R79, R81). -/
def stopRamping (s : State) : State :=
  match s.lift.state with
  | .accel => setLift { (dropStaged s).lift with state := .decel, stopping := true } (dropStaged s)
  | .run => setLift { (dropStaged s).lift with state := .decel, stopping := true } (dropStaged s)
  | .decel => setLift { (dropStaged s).lift with stopping := true } (dropStaged s)
  | .creep => endShort s
  | .settle => endShort s
  | .idle => s
  | .fault => s

/-- Re-derives the phase where the lift state changed (R2, R64). -/
def rederiveIfLiftChanged (before : LiftState) (s : State) : State :=
  if s.lift.state == before then s else rederive s

/-! ## Lift faults (R82) -/

/-- The trims of the spread that a LIFT_FAULT carries: the move trims in a move, the configured ones in IDLE (R63,
log 13). -/
def faultTrims (s : State) : Jacks Int := if moveInFlight s.lift.state then moveTrims s.lift else s.config.trims

/-- A lift fault: the lift enters FAULT with its commands and targets kept, posts its notices, and reports to the Pit
Interlock (R82, R12). -/
def faultLift (cause : HaltCause) (named : Jacks Bool) (s : State) : State :=
  let before := s.lift.state
  let spread := spreadOf s.lift (faultTrims s)
  let ended := dropStaged (postWorkingDone s.lift.working .faulted (some cause) (setLift (restLift .fault s.lift) s))
  raiseCause cause
    (post
      (.liftFault cause named before spread (commands ended.lift) (measuredPositions ended.lift)
        (followingErrors ended.lift))
      ended)

/-! ## Starting a move (R66, R68) -/

/-- The jack targets of a common target with a set of trims (R65, R66). -/
def jackTargets (target : Int) (trims : Jacks Int) : Jacks Int := jacksMap (fun t => target + t) trims

/-- The largest command position (R60). -/
def stroke : Int := 1500000

def withinStroke (p : Int) : Bool := decide (0 ≤ p) && decide (p ≤ stroke)

/-- The copies that a move takes when it starts (R66, step 1). -/
def moveCopies (c : Configuration) : MoveCopies :=
  ⟨c.fl, c.fh, c.acceleration, c.rampOffset, c.tiltLimit, c.followLimit, c.window, c.settleTime⟩

/-- The axis at a move's start: trim, target, whole accumulator, direction output (R66, steps 1 to 4). -/
def startAxis (target : Int) (direction : Direction) (a : Axis) (trim : Int) : Axis :=
  { a with
    moveTrim := trim, target := some (target + trim), accumulator := 1000 * a.command, direction := direction }

/-- Sets a command to its jack's target with the pulses of the change; a change against the move's direction sets the
direction output first (R62, R71). -/
def snapAxis (a : Axis) : Axis :=
  match a.target with
  | none => a
  | some t =>
    { a with
      command := t
      accumulator := 1000 * t
      pulses := a.pulses + (magnitude (t - a.command)).toNat
      direction := if a.command < t then .up else if t < a.command then .down else a.direction }

/-- The level of R66: the floor of the mean of command position less move trim. -/
def levelOf (l : Lift) (trims : Jacks Int) : Int :=
  let d := jacksZip (fun c t => c - t) (commands l) trims
  (d.j1 + d.j2 + d.j3 + d.j4) / 4

/-- The lift at a move's start, before its first state is chosen (R66, steps 1 to 5). -/
def preparedLift (c : Configuration) (m : Move) (direction : Direction) (l : Lift) : Lift :=
  { l with
    axes := jacksZip (startAxis m.target direction) l.axes c.trims
    working := some m
    stopping := false
    direction := direction
    copies := moveCopies c
    brakesApplied := false }

/-- The first state of a move class (R66, step 5). -/
def firstState : MoveClass → LiftState
  | .normal => .accel
  | .creep => .creep

/-- A move starts (R66). A common target equal to the level runs no profile: the commands are set to their targets and
the lift settles at once. -/
def startedLift (c : Configuration) (m : Move) (l : Lift) : Lift :=
  let level := levelOf l c.trims
  let p := preparedLift c m (if m.target < level then .down else .up) l
  if m.target = level then
    { p with
      axes := jacksMap snapAxis p.axes, state := .settle, speed := 0, remainder := 0
      settleTimer := some c.settleTime.toNat, drivesEnabled := true }
  else { p with state := firstState m.moveClass, speed := c.fl, remainder := 0, settleTimer := none }

/-! ## The profile generator (R70 to R74) -/

/-- Speed and remainder after an acceleration step up (R70). -/
def speedUp (l : Lift) : Lift :=
  let sum := l.remainder + l.copies.acceleration
  let v := l.speed + sum / 1000
  if l.copies.fh ≤ v then { l with speed := l.copies.fh, remainder := 0, state := .run }
  else { l with speed := v, remainder := sum % 1000 }

/-- Speed and remainder after an acceleration step down, held at FL (R73). -/
def speedDown (l : Lift) : Lift :=
  let sum := l.remainder + l.copies.acceleration
  { l with speed := maxInt (l.speed - sum / 1000) l.copies.fl, remainder := sum % 1000 }

/-- Step 1 of an update (R70, R73), before DECEL passes into CREEP. -/
def speedStep (l : Lift) : Lift :=
  match l.state with
  | .accel => speedUp l
  | .run => { l with speed := l.copies.fh }
  | .decel => speedDown l
  | .creep => { l with speed := l.copies.fl }
  | _ => l

/-- The remaining distance of J1 (R70, step 2). -/
def remainingDistance (l : Lift) : Int :=
  let t := l.axes.j1.target.getD l.axes.j1.command
  match l.direction with
  | .up => t - l.axes.j1.command
  | .down => l.axes.j1.command - t

/-- A DECEL at FL short of its target passes into CREEP (R73). -/
def creepStep (l : Lift) : Lift :=
  if l.state == .decel && l.speed == l.copies.fl && decide (0 < remainingDistance l) then { l with state := .creep }
  else l

/-- The ramp-down threshold of R72. -/
def rampThreshold (l : Lift) : Int :=
  let decelDistance := (l.speed * l.speed - l.copies.fl * l.copies.fl) / (2 * l.copies.acceleration)
  maxInt 0 (decelDistance + l.copies.rampOffset)

/-- Step 3 of an update (R70, R72). -/
def rampStep (l : Lift) : Lift :=
  if (l.state == .accel || l.state == .run) && decide (remainingDistance l ≤ rampThreshold l) then
    { l with state := .decel, remainder := 0 }
  else l

/-- Advances one axis by a distance in nanometres, up or down, held at its own target; an axis whose target lies on the
other side stays (R70 step 4, R71, R74). J1 too is held at its target already here, though R70 lets it pass the target
before R71 sets it there: the model's reading, by which no pulse goes past the target and back (log 39). -/
def advanceAxis (direction : Direction) (distance : Int) (a : Axis) : Axis :=
  let goal := 1000 * a.target.getD a.command
  let moved :=
    match direction with
    | .up => if goal < a.accumulator then a.accumulator else minInt (a.accumulator + distance) goal
    | .down => if a.accumulator < goal then a.accumulator else maxInt (a.accumulator - distance) goal
  { a with
    accumulator := moved
    command := moved / 1000
    pulses := a.pulses + (magnitude (moved / 1000 - a.command)).toNat }

/-- Step 4 of an update (R70). -/
def positionStep (l : Lift) : Lift := { l with axes := jacksMap (advanceAxis l.direction l.speed) l.axes }

/-- J1's accumulator has reached 1,000 times its target (R70, R71). -/
def targetReached (l : Lift) : Bool :=
  l.axes.j1.accumulator == 1000 * l.axes.j1.target.getD l.axes.j1.command

/-- The move reaches its target (R71). -/
def settledLift (l : Lift) : Lift :=
  { l with
    axes := jacksMap snapAxis l.axes, state := .settle, speed := 0, remainder := 0
    settleTimer := some l.copies.settleTime.toNat }

/-- Steps 2 to 4 of an update (R70). -/
def travel (l : Lift) : Lift :=
  if remainingDistance l ≤ 0 then settledLift l
  else
    let moved := positionStep (rampStep l)
    if targetReached moved then settledLift moved else moved

/-- A stopping move whose speed step has come down to FL ends there (R79). -/
def stopEnds (l : Lift) : Bool := l.stopping && l.state == .decel && l.speed == l.copies.fl

/-- A profile update (R70 to R74, R79), taken in ACCEL, RUN, DECEL and CREEP alone (R64). -/
def profileTick (s : State) : State :=
  if takesUpdates s.lift.state then
    let l := speedStep { s.lift with drivesEnabled := true }
    let next :=
      if stopEnds l then endShort (setLift l s)
      else setLift (travel (creepStep l)) s
    rederiveIfLiftChanged s.lift.state next
  else s

/-! ## Jack samples (R61, R75 to R78) -/

/-- Step 1 of a sample. -/
def sampleAxis (a : Axis) (reading : Int) : Axis :=
  { a with measured := reading, followingError := a.command - reading }

def sampledLift (readings : Jacks Int) (l : Lift) : Lift := { l with axes := jacksZip sampleAxis l.axes readings }

/-- The tilt check of R76 fails. -/
def tilted (l : Lift) : Bool :=
  moveInFlight l.state && decide (l.copies.tiltLimit < spreadOf l (moveTrims l))

/-- The jacks with the highest and the lowest value (R76, log 12). -/
def tiltJacks (l : Lift) : Jacks Bool :=
  let d := trimmedPositions l (moveTrims l)
  jacksMap (fun v => v == jacksMax d || v == jacksMin d) d

/-- The limit of the following check (R75). -/
def followLimitNow (s : State) : Int :=
  if moveInFlight s.lift.state then s.lift.copies.followLimit else s.config.followLimit

/-- The jacks whose following error is over the limit (R75). -/
def laggingJacks (s : State) : Jacks Bool :=
  jacksMap (fun e => decide (followLimitNow s < magnitude e)) (followingErrors s.lift)

/-- A jack lies within the move's window of its own target (R77). -/
def axisSettled (window : Int) (a : Axis) : Bool :=
  decide (magnitude (a.measured - a.target.getD a.measured) ≤ window)

/-- The settle test of R77. -/
def settleTest (l : Lift) : Bool := l.state == .settle && jacksAll (axisSettled l.copies.window) l.axes

/-- Rows 2 to 4 of R65 for a common target: the refusal, or none where they hold. -/
def startRefusal (s : State) (target : Int) : Option Result :=
  if !jacksAll withinStroke (jackTargets target s.config.trims) then some .form
  else if s.interlock.phase == .clamped || s.interlock.phase == .cutting || s.interlock.phase == .halted then
    some .interlock
  else if s.config.tiltLimit < configuredSpread s then some .interlock
  else none

/-- The working move is reached (R77): the staged move shifts in, or is dropped, or the lift becomes IDLE (R68). -/
def reachTarget (s : State) : State :=
  let done := postWorkingDone s.lift.working .reached none
    (setLift (clearTargets { s.lift with settleTimer := none }) s)
  let rest := fun (x : State) => setLift (restLift .idle x.lift) x
  match done.lift.staged with
  | none => rest done
  | some m =>
    if startRefusal done m.target = none then
      setLift (startedLift done.config m { done.lift with staged := none }) done
    else dropStaged (rest done)

/-- Whether a sample is a support-window change: with a job open, some jack crosses the edge of its window (R3). -/
def windowChanged (before after : State) : Bool :=
  match after.job with
  | none => false
  | some j =>
    let was := supportWindows before j.supportHeight
    let now := supportWindows after j.supportHeight
    jacksAny id (jacksZip (fun a b => a != b) was now)

/-- Step 5 of a sample that leaves the lift state as it was: the phase is derived where a support window changed (R3,
R61). -/
def handToInterlock (before s : State) : State := if windowChanged before s then rederive s else s

/-- A jack sample (R61). In FAULT it makes no check (R83). -/
def takeSample (readings : Jacks Int) (s : State) : State :=
  let x := setLift (sampledLift readings s.lift) s
  if tilted x.lift then faultLift .tilt (tiltJacks x.lift) x
  else if x.lift.state != .fault && jacksAny id (laggingJacks x) then
    faultLift .follow (firstJack (laggingJacks x)) x
  else if settleTest x.lift then rederive (reachTarget x)
  else handToInterlock s x

/-! ## The settle timer (R78) -/

/-- The jacks outside their settle windows. -/
def unsettledJacks (l : Lift) : Jacks Bool := jacksMap (fun a => !axisSettled l.copies.window a) l.axes

/-- The expiry of the settle timer; a timer that does not run does not expire (R78, log 20). -/
def expireSettle (s : State) : State :=
  if s.lift.settleTimer.isSome && s.lift.state == .settle then
    faultLift .settle (firstJack (unsettledJacks s.lift)) s
  else s

/-! ## ACK_FAULT at the lift (R83) -/

/-- A command set to the measured position, without a pulse. -/
def acknowledgedAxis (a : Axis) : Axis :=
  { a with command := a.measured, accumulator := 1000 * a.measured, followingError := 0, target := none }

/-- What a carried-out ACK_FAULT does to the lift (R83). -/
def acknowledgedLift (l : Lift) : Lift := { restLift .idle l with axes := jacksMap acknowledgedAxis l.axes }

/-! ## The requests -/

/-- The OK reply to LIFT_MOVE: STARTED or STAGED and the four jack targets (R65). -/
def moveReply (outcome : Nat) (target : Int) (s : State) : List Byte :=
  oneByte outcome ++ (jacksList (jackTargets target s.config.trims)).flatMap lengthBytes

/-- LIFT_MOVE (R65 to R67). -/
def serveLiftMove (target : Int) (moveClass : Nat) (s : State) : State × Answer :=
  match moveClassOf moveClass with
  | none => refuse .form s
  | some c =>
    if !withinStroke target then refuse .form s
    else
      match startRefusal s target with
      | some r => refuse r s
      | none =>
        if s.lift.stopping then refuse .busy s
        else if moveInFlight s.lift.state then
          if s.lift.staged.isSome then refuse .full s
          else answerOk (moveReply 1 target s) (setLift { s.lift with staged := some ⟨target, c⟩ } s)
        else
          answerOk (moveReply 0 target s) (rederive (setLift (startedLift s.config ⟨target, c⟩ s.lift) s))

/-- LIFT_STOP(DECEL) (R79, R81). -/
def serveLiftStopDecel (s : State) : State × Answer :=
  answerOk [] (rederiveIfLiftChanged s.lift.state (stopRamping s))

/-- LIFT_STOP(IMMEDIATE) (R80, R81). -/
def serveLiftStopImmediate (s : State) : State × Answer :=
  answerOk [] (rederiveIfLiftChanged s.lift.state (stopImmediately s))

end Sys2Proof.Machine
end

