-- ==== Sys2Proof/Machine/Clamps.lean ====
section
/-! DEFINITION. The requests and events of the Pit Interlock (Chapter 1): the clamps, the e-stop chain and the fault
acknowledgement. -/

namespace Sys2Proof.Machine

def setClamp (st : Station) (clamped : Bool) (s : State) : State :=
  { s with interlock := { s.interlock with clamped := s.interlock.clamped.set st clamped } }

/-- CLAMP_REQUEST (R5). -/
def serveClampRequest (station : Nat) (s : State) : State × Answer :=
  match stationArg s station with
  | none => refuse .form s
  | some st =>
    if s.interlock.phase != .supported && s.interlock.phase != .clamped then refuse .interlock s
    else if (boundRecord s st).isNone then refuse .interlock s
    else if stationClamped s st then refuse .interlock s
    else answerOk [] (rederive (setClamp st true s))

/-- The unclamp of a CLAMPED station (R6): the step in flight is lost, the scan in flight ends, the station becomes
UNCLAMPED, and the notices go in the order CUT_STATE, SCAN_DONE, PHASE. -/
def unclamp (st : Station) (s : State) : State :=
  let cut := if (stepInFlight s st).isSome then loseStep st .clampLost s else s
  let scanned := if scanInFlight cut st then postScanDone st (endScan st .clampLost cut) else cut
  rederive (setClamp st false scanned)

/-- UNCLAMP_REPORT (R6). -/
def serveUnclampReport (station : Nat) (s : State) : State × Answer :=
  match stationArg s station with
  | none => refuse .form s
  | some st => answerOk [] (if stationClamped s st then unclamp st s else s)

/-- A jack lies outside its support window (R16, row 3). -/
def jackOutside (s : State) : Bool :=
  match s.job with
  | none => false
  | some j => !jacksAll id (supportWindows s j.supportHeight)

/-- A carried-out ACK_FAULT (R16, R83). -/
def acknowledge (s : State) : State :=
  rederive
    (setLift (acknowledgedLift s.lift) { s with interlock := { s.interlock with causes := CauseSet.none } })

/-- ACK_FAULT (R16). -/
def serveAckFault (s : State) : State × Answer :=
  if s.interlock.phase != .halted then answerOk [] s
  else if s.interlock.estopLatch then refuse .interlock s
  else if anyClamped s && jackOutside s then refuse .interlock s
  else answerOk [] (acknowledge s)

def setLatch (latch : Bool) (s : State) : State := { s with interlock := { s.interlock with estopLatch := latch } }

/-- The e-stop assertion edge (R10): the latch is set; outside HALTED the lift stops at once and the pit halts; in HALTED
the cause joins the set. -/
def assertEstop (s : State) : State :=
  let latched := setLatch true s
  if s.interlock.phase == .halted then addCause .estop latched else halt .estop (stopImmediately latched)

/-- The e-stop release edge (R10). -/
def releaseEstop (s : State) : State := setLatch false s

end Sys2Proof.Machine
end

