-- ==== Sys2Proof/Machine/Scan.lean ====
section
/-! DEFINITION. The Scan Unit (Chapter 5): the start of a scan, the events that feed it, and its end. -/

namespace Sys2Proof.Machine

/-! ## Starting a scan (R90 to R92) -/

/-- The station's axle has steps remaining: the plan includes it and its finish step has not completed (R90). -/
def stepsRemaining (s : State) (st : Station) : Bool :=
  planIncludes s st && !(s.cut.contexts.get st).axleDone

/-- The cut is RUNNING or SUSPENDED. -/
def cutUnderWay (s : State) : Bool := s.cut.state == .running || s.cut.state == .suspended

/-- The phase is CLAMPED or CUTTING and the station is CLAMPED (R9). -/
def workAdmitted (s : State) (st : Station) : Bool :=
  (s.interlock.phase == .clamped || s.interlock.phase == .cutting) && stationClamped s st

/-- A PLANNED plan is discarded with its CUT_STATE notice (R92). -/
def discardPlanned (s : State) : State :=
  if s.cut.state == .planned then postCutState .planned noReports (discardPlan s) else s

/-- The scan as an accepted START_MEASURE leaves it (R91, steps 2 to 4). -/
def startedScan (scanTime : Int) : Scan where
  state := .collecting
  sides := ⟨.reset, .reset⟩
  scanTime := some scanTime
  timer := some scanTime.toNat

/-- An accepted START_MEASURE (R91). -/
def startScan (st : Station) (s : State) : State :=
  let d := discardPlanned s
  setMeasurement st (startedMeasurement d (d.measurements.get st)) (setScan st (startedScan d.config.scanTime) d)

/-- START_MEASURE (R90). -/
def serveStartMeasure (station : Nat) (s : State) : State × Answer :=
  match stationArg s station with
  | none => refuse .form s
  | some st =>
    if !workAdmitted s st then refuse .interlock s
    else if scanInFlight s st then refuse .busy s
    else if (stepInFlight s st).isSome then refuse .busy s
    else if cutUnderWay s && stepsRemaining s st then refuse .busy s
    else answerOk (oneByte (stationNumber st) ++ unsignedBytes 4 s.config.scanTime) (startScan st s)

/-! ## Gauge points (R93 to R95) -/

/-- The points a list holds at most (R95). -/
def pointLimit : Nat := 512

/-- A disorder count rises by one and stays at 65,535 (R94). -/
def countDisorder (x : ScanSide) : ScanSide :=
  { x with disorder := if x.disorder < 65535 then x.disorder + 1 else x.disorder }

/-- The range test of R93. -/
def pointInRange (y z : Int) : Bool := inRange 0 160000 y && inRange (-250000) 250000 z

/-- The order test of R94. -/
def pointInOrder (points : List Point) (y : Int) : Bool :=
  match points.getLast? with
  | none => true
  | some p => decide (p.y < y)

/-- The tests of R93 to R95 on a point that is taken. -/
def takePoint (refRadius y z : Int) (x : ScanSide) : ScanSide :=
  if !pointInRange y z then countDisorder x
  else if !pointInOrder x.points y then countDisorder x
  else if x.points.length < pointLimit then { x with points := x.points ++ [⟨y, refRadius + z⟩] }
  else { x with truncated := true }

def scanSide (s : State) (c : Channel) : ScanSide := (s.scans.get c.station).sides.get c.side

def setScanSide (c : Channel) (x : ScanSide) (s : State) : State :=
  setScan c.station { s.scans.get c.station with sides := (s.scans.get c.station).sides.set c.side x } s

/-- A gauge point event (R93). -/
def gaugePointTaken (c : Channel) (y z : Int) (s : State) : State :=
  if scanInFlight s c.station && !(scanSide s c).endMarker then
    setScanSide c (takePoint ((s.config.refRadius.get c.station).get c.side) y z (scanSide s c)) s
  else s

/-! ## The completion of a scan (R98, R101) -/

/-- The captures a list holds at most (R97). -/
def captureLimit : Nat := 5

/-- Both end markers and five captures in each list are in (R98). -/
def scanComplete (x : Scan) : Bool :=
  x.sides.l.endMarker && x.sides.r.endMarker && x.sides.l.captures.length == captureLimit
    && x.sides.r.captures.length == captureLimit

/-- A scan completes: the measurement is computed, SCAN_DONE is posted, and the Measurement Unit hands on (R98, R115). -/
def finishScan (st : Station) (s : State) : State :=
  let m := completedMeasurement s st
  handOn st m (postScanDone st (stopScan st (setMeasurement st m s)))

/-- Ends the scan at the event that gives it the last of its parts (R98). -/
def completeIfDue (st : Station) (s : State) : State :=
  if scanComplete (s.scans.get st) then finishScan st s else s

/-- An end marker event (R96). -/
def endMarkerTaken (c : Channel) (s : State) : State :=
  if scanInFlight s c.station && !(scanSide s c).endMarker then
    completeIfDue c.station (setScanSide c { scanSide s c with endMarker := true } s)
  else s

/-- Appends a capture to a side. -/
def capture (count : RollerCount) (x : ScanSide) : ScanSide := { x with captures := x.captures ++ [count] }

/-- Reads both roller counts of a station into its capture lists (R97). -/
def captureBoth (st : Station) (s : State) : State :=
  let x := s.scans.get st
  let counts := s.rollers.get st
  setScan st { x with sides := ⟨capture counts.l x.sides.l, capture counts.r x.sides.r⟩ } s

/-- The station's capture lists hold fewer than five captures (R97). -/
def capturesOpen (x : Scan) : Bool :=
  decide (x.sides.l.captures.length < captureLimit) && decide (x.sides.r.captures.length < captureLimit)

/-- A wheel-index edge (R97). -/
def indexEdgeTaken (st : Station) (s : State) : State :=
  if scanInFlight s st && capturesOpen (s.scans.get st) then completeIfDue st (captureBoth st s) else s

/-- A count of a roller encoder (R89); station 2's are not taken in a single-station pit (R53). -/
def rollerCountTaken (c : Channel) (s : State) : State :=
  if stationExists s c.station then
    let sides := s.rollers.get c.station
    { s with rollers := s.rollers.set c.station (sides.set c.side (sides.get c.side + 1)) }
  else s

/-! ## The scan timer (R99) -/

/-- The expiry of a scan timer; a timer that does not run does not expire (R99, log 20). -/
def expireScan (st : Station) (s : State) : State :=
  if scanInFlight s st && (s.scans.get st).timer.isSome then postScanDone st (endScan st .timeout s) else s

end Sys2Proof.Machine
end

