-- ==== Sys2Proof/Machine/Templates.lean ====
section
/-! DEFINITION. The Template Table (Chapter 7): loading, the taping-line test, eligibility, the disposition table and its
lookup. -/

namespace Sys2Proof.Machine

/-! ## Loading a template (R125, R126) -/

/-- R124, a byte of the name. -/
def nameByteValid (b : Byte) : Bool := decide (0x20 ≤ b.toNat) && decide (b.toNat ≤ 0x7E)

/-- R124, the ranges of a point. -/
def templatePointInRange (p : TemplatePoint) : Bool := inRange 0 160000 p.y && inRange (-100000) 100000 p.t

/-- The index of the first point out of range (R125, row 6). -/
def firstOutOfRange (ps : List TemplatePoint) : Option Nat := ps.findIdx? (fun p => !templatePointInRange p)

/-- The index of the first point whose y is not greater than the y of the point before it (R125, row 7). -/
def firstDisorder : (index : Nat) → List TemplatePoint → Option Nat
  | _, [] => none
  | _, [_] => none
  | i, a :: b :: rest => if b.y ≤ a.y then some (i + 1) else firstDisorder (i + 1) (b :: rest)

/-- A point lies at the taping line with t equal to 0 (R124). -/
def hasTapingPoint (yTap : Int) (ps : List TemplatePoint) : Bool := ps.any (fun p => p.y == yTap && p.t == 0)

/-- Rows 3 to 8 of R125. -/
def templateFault (yTap : Int) (t : TemplateFields) : Option TemplateFault :=
  if t.count < 3 ∨ 64 < t.count ∨ t.points.length ≠ t.count then some .count
  else if !t.name.all nameByteValid then some .name
  else if !inRange 0 160000 t.ftNom then some .ftNom
  else
    match firstOutOfRange t.points with
    | some i => some (.pointRange i)
    | none =>
      match firstDisorder 0 t.points with
      | some i => some (.order i)
      | none => if hasTapingPoint yTap t.points then none else some .taping

/-- The point index that a fault carries (R125, R202). -/
def faultPoint : TemplateFault → List Byte
  | .pointRange i => oneByte i
  | .order i => oneByte i
  | _ => []

/-- The fields of a FORM reply to LOAD_TEMPLATE. -/
def faultBytes (f : TemplateFault) : List Byte := oneByte f.code ++ faultPoint f

/-! ## Eligibility (R130) -/

def templateEligible (ftMin : Int) (t : Template) : Bool := decide (ftMin ≤ t.ftNom)

/-- A slot is eligible when it is LOADED with Ft_nom at or above Ft_min (R130). -/
def slotEligible (ftMin : Int) (x : Slot) : Bool := x.template.any (templateEligible ftMin)

/-- Eligibility of the slot at an index. -/
def eligible (s : State) (i : Nat) : Bool := slotEligible s.config.ftMin (slotAt s.slots i)

def setSlot (i : Nat) (x : Slot) (s : State) : State := { s with slots := s.slots.setIfInBounds i x }

/-- The template as stored. -/
def storedTemplate (t : TemplateFields) : Template := ⟨t.name, t.ftNom, t.points⟩

/-- LOAD_TEMPLATE (R125, R126). -/
def serveLoadTemplate (index : Nat) (t : TemplateFields) (s : State) : State × Answer :=
  if 7 < index then refuseWith .form (faultBytes .index) s
  else if (slotAt s.slots index).locked then refuse .inUse s
  else
    match templateFault s.config.yTap t with
    | some f => refuseWith .form (faultBytes f) s
    | none =>
      answerOk
        (oneByte index ++ boolByte (slotAt s.slots index).template.isSome
          ++ boolByte (templateEligible s.config.ftMin (storedTemplate t)))
        (setSlot index ⟨some (storedTemplate t), (slotAt s.slots index).locked⟩ s)

/-- A change of y_tap empties each slot whose template has no taping point at the new position (R127). -/
def testTaping (yTap : Int) (x : Slot) : Slot :=
  { x with template := x.template.filter fun t => hasTapingPoint yTap t.points }

/-- A template in a READ_TEMPLATE reply: name, Ft_nom, point count and points (R134). -/
def templateBytes (t : Template) : List Byte :=
  t.name ++ lengthBytes t.ftNom ++ oneByte t.points.length
    ++ t.points.flatMap fun p => lengthBytes p.y ++ signedBytes 4 p.t

/-- State, lock and eligibility of a slot, one byte each (R134). -/
def slotBytes (ftMin : Int) (x : Slot) : List Byte :=
  boolByte x.template.isSome ++ boolByte x.locked ++ boolByte (slotEligible ftMin x)

/-- READ_TEMPLATE (R134). -/
def serveReadTemplate (index : Nat) (s : State) : State × Answer :=
  if 7 < index then refuse .form s
  else
    let x := slotAt s.slots index
    answerOk (slotBytes s.config.ftMin x ++ (x.template.map templateBytes).getD []) s

/-! ## The disposition table (R131 to R133) -/

/-- The cut states in which the table may not change (R132, row 1). -/
def planStands (s : State) : Bool :=
  s.cut.state == .planned || s.cut.state == .running || s.cut.state == .suspended

/-- The index of the first entry code that names nothing (R132, row 4). -/
def firstBadEntry (codes : List Nat) : Option Nat := codes.findIdx? (fun c => (dispositionEntryOf c).isNone)

/-- LOAD_DISPOSITION (R132). -/
def serveLoadDisposition (d : DispositionFields) (s : State) : State × Answer :=
  if planStands s then refuse .inUse s
  else if !(inRange 0 160000 d.lower && inRange 100 5000 d.width && inRange 1 32 d.count) then refuse .form s
  else if d.codes.length ≠ d.count then refuse .form s
  else
    match firstBadEntry d.codes with
    | some i => refuseWith .form (oneByte i) s
    | none =>
      answerOk (oneByte d.count)
        { s with
          disposition := ⟨some d.lower, some d.width, d.codes.filterMap dispositionEntryOf⟩ }

/-- READ_DISPOSITION (R134): L, W, n and the entries, L and W each behind its presence byte (R202, log 9). -/
def serveReadDisposition (s : State) : State × Answer :=
  let d := s.disposition
  answerOk
    (optionalBytes 3 lengthBytes d.lower ++ optionalBytes 2 (unsignedBytes 2) d.width ++ oneByte d.entries.length
      ++ d.entries.flatMap fun e => oneByte e.code) s

/-- The lookup result of an entry (R133). -/
def entryLookup : DispositionEntry → Lookup
  | .template i => .template i
  | .exchange => .exchange
  | .noEntry => .default

/-- The disposition lookup on the thinner flange (R133). -/
def dispositionLookup (d : Disposition) (ft : Int) : Lookup :=
  match d.lower, d.width with
  | some lower, some width =>
    if ft < lower ∨ lower + d.entries.length * width ≤ ft then .default
    else ((d.entries[((ft - lower) / width).toNat]?).map entryLookup).getD .default
  | _, _ => .default

end Sys2Proof.Machine
end

