-- ==== Sys2Proof/Machine/Jobs.lean ====
section
/-! DEFINITION. The Job Register (Chapter 3): opening and closing a job. -/

namespace Sys2Proof.Machine

/-! ## The checks of SET_JOB (R46, R47) -/

/-- Position 2 is absent: its orientation and its identity length are both 0 (R203). -/
def secondAbsent (f : JobFields) : Bool := f.orientation2 == 0 && f.identity2.isEmpty

/-- Row 2 of R47 for the fields without a position. -/
def jobNumbersValid (f : JobFields) : Bool :=
  inRange 1 65535 f.jobNumber && decide (f.odometer ≤ 9999999) && (planModeOf f.mode).isSome
    && decide (f.defaultTemplate ≤ 7) && decide (f.upperIndex ≤ 7) && inRange (-3) 3 f.bias
    && inRange 200000 1400000 f.supportHeight

/-- Row 2 of R47 for the orientations: position 2 has both an orientation and an identity, or neither (R203). -/
def jobOrientationsValid (f : JobFields) : Bool :=
  (orientationOf f.orientation1).isSome
    && (secondAbsent f || ((orientationOf f.orientation2).isSome && !f.identity2.isEmpty))

/-- Row 2 of R47 for the identities: none has more than the 32 bytes of R46. An identity of no byte at position 1 fails folding
instead (R203), at row 3. -/
def jobIdentitiesValid (f : JobFields) : Bool := decide (f.identity1.length ≤ 32) && decide (f.identity2.length ≤ 32)

/-- A position of a SET_JOB with its folded identity and its record. -/
def foundPosition (s : State) (f : Folded) : Option AxleRecord := findRecord f.identity s.store

/-- The job that an accepted SET_JOB opens (R48, step 1); the codes have been checked. -/
def openedJob (f : JobFields) (first : Folded) (second : Option Folded) : Job where
  number := f.jobNumber
  odometer := f.odometer
  position1 := ⟨first.identity, (orientationOf f.orientation1).getD .aOnL⟩
  position2 := second.map fun x => ⟨x.identity, (orientationOf f.orientation2).getD .aOnL⟩
  mode := (planModeOf f.mode).getD .fast
  defaultTemplate := f.defaultTemplate
  upperIndex := f.upperIndex
  bias := f.bias
  supportHeight := f.supportHeight

/-! ## Binding (R38) -/

/-- Sets the binding of a record and posts RECORD_CHANGED with BINDING (R38). -/
def bindRecord (identity : List Byte) (b : Binding) (s : State) : State :=
  match findRecord identity s.store with
  | none => s
  | some r =>
    post (.recordChanged r.identity .bindingOnly)
      { s with store := changeRecord identity (fun x => { x with binding := b }) s.store }

/-- Binds or unbinds the records of a job, position 1 first (R48, R56). -/
def bindPositions (j : Job) (first second : Binding) (s : State) : State :=
  let one := bindRecord j.position1.identity first s
  match j.position2 with
  | none => one
  | some p => bindRecord p.identity second one

/-- Both measurement records return to their reset values (R120). -/
def resetMeasurements (s : State) : State := { s with measurements := ⟨.reset, .reset⟩ }

/-- An accepted SET_JOB (R48). -/
def openJob (j : Job) (s : State) : State :=
  bindPositions j .position1 .position2 (rederive (clearPlan (resetMeasurements { s with job := some j })))

/-- A position of the SET_JOB reply: a presence byte, the folded identity, TRUNCATED and the fold report (R48, R202). -/
def boundPositionBytes (f : Folded) (r : AxleRecord) : List Byte :=
  oneByte 1 ++ f.identity ++ boolByte r.truncated ++ boolByte f.truncated

/-- An absent position fills its bytes with 0 (R202). -/
def absentPositionBytes : List Byte := bytesOf 23 0

/-- The OK reply to SET_JOB (R48): job number, phase after the event, positions. -/
def jobReply (j : Job) (one two : List Byte) (s : State) : List Byte :=
  unsignedBytes 2 j.number ++ oneByte s.interlock.phase.code ++ one ++ two

/-- Rows 6 and 8 to 10 of R47 for a job of position 1 alone. -/
def setSingleJob (f : JobFields) (first : Folded) (s : State) : State × Answer :=
  match foundPosition s first with
  | none => refuseWith .notFound (oneByte 1) s
  | some r1 =>
    if r1.condemned then refuseWith .form (oneByte 1) s
    else
      let j := openedJob f first none
      let next := openJob j s
      answerOk (jobReply j (boundPositionBytes first r1) absentPositionBytes next) next

/-- Rows 5 to 10 of R47 for a job of two positions. -/
def setTandemJob (f : JobFields) (first second : Folded) (s : State) : State × Answer :=
  if first.identity = second.identity then refuseWith .form (oneByte 2) s
  else
    match foundPosition s first, foundPosition s second with
    | none, _ => refuseWith .notFound (oneByte 1) s
    | some _, none => refuseWith .notFound (oneByte 2) s
    | some r1, some r2 =>
      if r1.condemned then refuseWith .form (oneByte 1) s
      else if r2.condemned then refuseWith .form (oneByte 2) s
      else
        let j := openedJob f first (some second)
        let next := openJob j s
        answerOk (jobReply j (boundPositionBytes first r1) (boundPositionBytes second r2) next) next

/-- SET_JOB (R47, R48). An identity of more than 32 bytes lies outside the range of R46 and is refused at row 2, before folding;
that a refusal of row 2 names no position is log 23. -/
def serveSetJob (f : JobFields) (s : State) : State × Answer :=
  if s.interlock.phase != .idle then refuse .interlock s
  else if !(jobNumbersValid f && jobOrientationsValid f && jobIdentitiesValid f) then refuse .form s
  else
    match fold f.identity1 with
    | none => refuseWith .form (oneByte 1) s
    | some first =>
      if secondAbsent f then setSingleJob f first s
      else
        match fold f.identity2 with
        | none => refuseWith .form (oneByte 2) s
        | some second =>
          if s.straps.stationCount == .single then refuseWith .form (oneByte 2) s
          else setTandemJob f first second s

/-! ## CLOSE_JOB (R55, R56) -/

/-- The job's items are cleared (R56, step 4). -/
def clearJob (s : State) : State := { s with job := none }

/-- Step 1 of R56 with its CUT_STATE: the plan is discarded where the cut is PLANNED, COMPLETE or ABANDONED. -/
def closeCut (s : State) : State :=
  if s.cut.state == .none then s else postCutState s.cut.state noReports (discardPlan s)

/-- An accepted CLOSE_JOB (R56). -/
def closeJob (j : Job) (s : State) : State :=
  bindPositions j .none .none (rederive (clearJob (resetMeasurements (closeCut s))))

/-- CLOSE_JOB (R55, R56). -/
def serveCloseJob (s : State) : State × Answer :=
  match s.job with
  | none => refuse .interlock s
  | some j =>
    if s.interlock.phase == .halted || cutUnderWay s || anyClamped s then refuse .interlock s
    else answerOk (unsignedBytes 2 j.number) (closeJob j s)

end Sys2Proof.Machine
end

