-- ==== Sys2Proof/Machine/Fitting.lean ====
section
/-! DEFINITION. The planning arithmetic (Sections 8.3 to 8.6): offsets, coverage, fit radii, removals and step lists. -/

namespace Sys2Proof.Machine

/-! ## Template offsets and zone samples (R146) -/

/-- The offset on the line from p to q at y, rounded up (R146). -/
def lineOffset (p q : TemplatePoint) (y : Int) : Int := p.t + ceilDiv ((q.t - p.t) * (y - p.y)) (q.y - p.y)

/-- The template offset t(y) at a y within the zone (R146); 0 outside it, where no rule reads it. -/
def offsetAt (y : Int) : List TemplatePoint → Int
  | [] => 0
  | [p] => if p.y = y then p.t else 0
  | p :: q :: rest =>
    if p.y = y then p.t
    else if p.y < y ∧ y < q.y then lineOffset p q y
    else offsetAt y (q :: rest)

/-- The y of the first and of the last point (R124, the template zone). -/
def zoneOf (ps : List TemplatePoint) : Option (Int × Int) :=
  match ps.head?, ps.getLast? with
  | some a, some b => some (a.y, b.y)
  | _, _ => none

/-- A y lies within a zone, both ends included. -/
def inZone (zone : Int × Int) (y : Int) : Bool := decide (zone.1 ≤ y) && decide (y ≤ zone.2)

/-- The radius less the template offset at each zone sample of a wheel, the taping sample first (R146). Slack and removal
are both formed from these. -/
def zoneGaps (ps : List TemplatePoint) (zone : Int × Int) (rTap : Int) (points : List Point) : List Int :=
  rTap :: (points.filter fun p => inZone zone p.y).map fun p => p.r - offsetAt p.y ps

/-- The smallest of a list led by `first`. -/
def leastOf (first : Int) (rest : List Int) : Int := rest.foldl minInt first

/-- The largest of a list led by `first`. -/
def greatestOf (first : Int) (rest : List Int) : Int := rest.foldl maxInt first

/-- The smallest gap of a wheel; the taping sample is always among its samples. -/
def leastGap (ps : List TemplatePoint) (zone : Int × Int) (rTap : Int) (points : List Point) : Int :=
  leastOf rTap (zoneGaps ps zone rTap points)

/-- The largest gap of a wheel. -/
def greatestGap (ps : List TemplatePoint) (zone : Int × Int) (rTap : Int) (points : List Point) : Int :=
  greatestOf rTap (zoneGaps ps zone rTap points)

/-! ## Coverage (R147) -/

/-- How far a list may stop short of the zone's ends (R147). -/
def coverageMargin : Int := 2000

/-- The largest gap between consecutive points of which one lies in the zone (R147). -/
def coverageGap : Int := 3000

/-- The third condition of R147. -/
def gapsCovered (zone : Int × Int) : List Point → Bool
  | [] => true
  | [_] => true
  | a :: b :: rest =>
    (!(inZone zone a.y || inZone zone b.y) || decide (b.y - a.y ≤ coverageGap)) && gapsCovered zone (b :: rest)

/-- A wheel's list covers a zone (R147). -/
def covers (zone : Int × Int) (points : List Point) : Bool :=
  match points.head?, points.getLast? with
  | some a, some b =>
    decide (a.y ≤ zone.1 + coverageMargin) && decide (zone.2 - coverageMargin ≤ b.y) && gapsCovered zone points
  | _, _ => false

/-! ## Fit radii (R148) -/

/-- The grid of final radii (R148). -/
def radiusGrid : Int := 25

/-- Floors a radius to the grid (R148). -/
def floorToGrid (r : Int) : Int := r / radiusGrid * radiusGrid

/-- The radius R_w of a wheel (R148). -/
def fitRadius (cleanUp : Int) (ps : List TemplatePoint) (zone : Int × Int) (rTap : Int) (points : List Point) : Int :=
  floorToGrid (leastGap ps zone rTap points - cleanUp)

/-- The evaluation of an eligible template for an axle (R147, R148): coverage, wheel L first, then the radii. -/
def evaluateTemplate (cleanUp : Int) (t : Template) (rTap : Sides Int) (points : Sides (List Point)) : Evaluation :=
  match zoneOf t.points with
  | none => .notEvaluable .l
  | some zone =>
    if !covers zone points.l then .notEvaluable .l
    else if !covers zone points.r then .notEvaluable .r
    else
      let rL := fitRadius cleanUp t.points zone rTap.l points.l
      let rR := fitRadius cleanUp t.points zone rTap.r points.r
      .evaluated rL rR (minInt rL rR)

/-! ## Removals and step counts (R150) -/

/-- The maximum removal of a wheel at a radius (R150). -/
def maximumRemoval (t : Template) (rTap : Int) (points : List Point) (radius : Int) : Int :=
  match zoneOf t.points with
  | none => rTap - radius
  | some zone => greatestGap t.points zone rTap points - radius

/-- The rough count of a wheel (R150). -/
def roughCount (finish maxRough m : Int) : Nat := if m ≤ finish then 0 else (ceilDiv (m - finish) maxRough).toNat

/-- The step count of an axle (R150). -/
def stepCountOf (finish maxRough : Int) (m : Sides Int) : Nat :=
  Nat.max (roughCount finish maxRough m.l) (roughCount finish maxRough m.r) + 1

/-- The steps a step list holds at most (R150). -/
def stepLimit : Nat := 8

/-! ## Step lists (R153, R154) -/

/-- The depth of one wheel on step j of n, j counted from 1 (R153). -/
def stepDepth (finish m : Int) (n j : Nat) : Int :=
  if m ≤ finish then (if j < n then 0 else m)
  else if j < n then
    let shared : Int := (n : Int) - 1
    (m - finish) / shared + (if (j : Int) ≤ (m - finish) % shared then 1 else 0)
  else finish

/-- The sum of a wheel's depths on steps 1 to j. -/
def depthSum (finish m : Int) (n : Nat) : (j : Nat) → Int
  | 0 => 0
  | j + 1 => depthSum finish m n j + stepDepth finish m n (j + 1)

/-- The target radius of one wheel on step j (R154). -/
def stepTarget (rFinal finish m : Int) (n j : Nat) : Int := rFinal + (m - depthSum finish m n j)

/-- The entry of step j of n (R138). -/
def makeStep (rFinal finish : Int) (m : Sides Int) (n j : Nat) : StepEntry where
  number := j
  kind := if j < n then .rough else .finish
  depth := m.map fun x => stepDepth finish x n j
  target := m.map fun x => stepTarget rFinal finish x n j

/-- The step list of an included position (R153). -/
def makeSteps (rFinal finish : Int) (m : Sides Int) (n : Nat) : List StepEntry :=
  (List.range n).map fun k => makeStep rFinal finish m n (k + 1)

end Sys2Proof.Machine
end

