-- ==== Sys2Proof/Machine/Plan.lean ====
section
/-! DEFINITION. The Planner (Chapter 8): the per-axle steps, bogie matching, the outcome of a plan, PLAN and READ_PLAN.
A position record passes from step to step; the first step that excludes it ends its way (R141). -/

namespace Sys2Proof.Machine

/-! ## The position record on its way -/

def exclude (reason : ExclusionReason) (r : PositionRecord) : PositionRecord := { r with outcome := .excluded reason }

/-- A later step is made only for a position that no earlier step excluded (R141). -/
def whileIncluded (step : PositionRecord → PositionRecord) (r : PositionRecord) : PositionRecord :=
  if isIncluded r then step r else r

/-- Marks one index of the evaluation table. -/
def markIndex (i : Nat) (e : Evaluation) (r : PositionRecord) : PositionRecord :=
  { r with evaluations := r.evaluations.set i e }

/-- The measured taping radii of a position. -/
def measuredRadii (s : State) (st : Station) : Sides Int := (s.measurements.get st).wheels.map fun w => w.rTap.getD 0

/-- The kept point lists that stand for a position (R101). -/
def keptPoints (s : State) (st : Station) : Sides (List Point) := (s.scans.get st).sides.map ScanSide.points

/-- The smaller of the two flange thicknesses (R133). -/
def thinnerFlange (s : State) (st : Station) : Int :=
  minInt (measuredFt (s.measurements.get st)).l (measuredFt (s.measurements.get st)).r

/-- The position record after the disposition lookup (R140, step 1). It holds the lookup result and the thinner Ft; every later
item is absent (Section 8.11). -/
def lookedUp (s : State) (st : Station) : PositionRecord where
  outcome := .included
  thinnerFt := thinnerFlange s st
  lookup := dispositionLookup s.disposition (thinnerFlange s st)
  evaluations := List.replicate 8 .notConsidered
  chosen := none
  used := none
  ownRadius := none
  matched := false
  rFinal := none
  rTap := none
  maxRemoval := none
  tapingDepth := none
  stepCount := none
  steps := []

/-! ## Budget and disposition (R141, R142) -/

def budgetStep (s : State) (st : Station) (r : PositionRecord) : PositionRecord :=
  if ((boundRecord s st).map AxleRecord.budget).getD 0 = 0 then exclude .budget r else r

def dispositionStep (r : PositionRecord) : PositionRecord :=
  if r.lookup = .exchange then exclude .exchange r else r

/-! ## Template choice (R143 to R145) -/

/-- The evaluation of the template in a slot for a position; INELIGIBLE where R130 says so. -/
def evaluateSlot (s : State) (st : Station) (i : Nat) : Evaluation :=
  match (slotAt s.slots i).template with
  | none => .ineligible
  | some t =>
    if templateEligible s.config.ftMin t then
      evaluateTemplate s.config.cleanUp t (measuredRadii s st) (keptPoints s st)
    else .ineligible

/-- R_axle of an EVALUATED entry. -/
def evaluatedRadius : Evaluation → Option Int
  | .evaluated _ _ r => some r
  | _ => none

/-- The candidate that FAST evaluates (R143, steps 3 and 4). -/
def judgeCandidate (s : State) (st : Station) (i : Nat) (r : PositionRecord) : PositionRecord :=
  let e := evaluateSlot s st i
  match evaluatedRadius e with
  | some radius => { markIndex i e r with chosen := some i, used := some i, ownRadius := some radius }
  | none => exclude .noFit (markIndex i e r)

/-- The first candidate of FAST (R143, step 1). -/
def fastCandidate (lookup : Lookup) (default : Nat) : Nat :=
  match lookup with
  | .template i => i
  | _ => default

/-- The template choice under FAST (R143). -/
def chooseFast (s : State) (st : Station) (j : Job) (r : PositionRecord) : PositionRecord :=
  let first := fastCandidate r.lookup j.defaultTemplate
  if eligible s first then judgeCandidate s st first r
  else
    let marked := markIndex first .ineligible r
    if eligible s j.defaultTemplate then judgeCandidate s st j.defaultTemplate marked
    else exclude .noTemplate (markIndex j.defaultTemplate .ineligible marked)

/-- The evaluation table of the FULL sweep (R144). -/
def sweep (s : State) (st : Station) (upper : Nat) : List Evaluation :=
  (List.range 8).map fun i => if i ≤ upper then evaluateSlot s st i else .notConsidered

/-- The EVALUATED index of largest R_axle, the lowest of equals (R144). -/
def bestIndex : (index : Nat) → (best : Option (Nat × Int)) → List Evaluation → Option (Nat × Int)
  | _, best, [] => best
  | i, best, e :: rest =>
    let next :=
      match evaluatedRadius e, best with
      | none, b => b
      | some r, none => some (i, r)
      | some r, some (k, q) => if q < r then some (i, r) else some (k, q)
    bestIndex (i + 1) next rest

/-- The R_axle at an index of an evaluation table. -/
def radiusAt (table : List Evaluation) (i : Nat) : Option Int := (table[i]?).bind evaluatedRadius

/-- The walk from the biased index toward the chosen index (R145); 8 steps reach it from anywhere. -/
def stepBack (table : List Evaluation) (chosen : Nat) : (fuel : Nat) → Nat → Nat
  | 0, _ => chosen
  | fuel + 1, i =>
    if (radiusAt table i).isSome then i
    else if i < chosen then stepBack table chosen fuel (i + 1)
    else if chosen < i then stepBack table chosen fuel (i - 1)
    else chosen

/-- The biased index (R145). -/
def biasedIndex (chosen upper : Nat) (bias : Int) : Nat := (clampInt 0 upper ((chosen : Int) + bias)).toNat

/-- Whether an index of the sweep was eligible. -/
def sweptEligible : Evaluation → Bool
  | .notEvaluable _ => true
  | .evaluated _ _ _ => true
  | _ => false

/-- The template choice under FULL (R144, R145). -/
def chooseFull (s : State) (st : Station) (j : Job) (r : PositionRecord) : PositionRecord :=
  let table := sweep s st j.upperIndex
  let swept := { r with evaluations := table }
  match bestIndex 0 none table with
  | none => exclude (if table.any sweptEligible then .noFit else .noTemplate) swept
  | some (chosen, radius) =>
    let used := stepBack table chosen 8 (biasedIndex chosen j.upperIndex j.bias)
    { swept with
      chosen := some chosen, used := some used, ownRadius := some ((radiusAt table used).getD radius) }

/-- The template choice (R143 to R145). It is the first step that reads the measured wheels, so it copies their taping radii
(R137, log 18). -/
def choiceStep (s : State) (st : Station) (j : Job) (r : PositionRecord) : PositionRecord :=
  let copied := { r with rTap := some (measuredRadii s st) }
  match j.mode with
  | .fast => chooseFast s st j copied
  | .full => chooseFull s st j copied

/-! ## Condemn and depth (R149, R150) -/

/-- Half the condemning diameter of the bound record, rounded up (R149). -/
def condemnRadius (s : State) (st : Station) : Int :=
  ceilDiv (((boundRecord s st).map AxleRecord.condemnDia).getD 0) 2

def condemnStep (s : State) (st : Station) (r : PositionRecord) : PositionRecord :=
  if r.ownRadius.getD 0 < condemnRadius s st then exclude .condemn r else r

/-- The maximum removals of both wheels at a radius under the template used (R150). -/
def removalsAt (s : State) (st : Station) (r : PositionRecord) (radius : Int) : Sides Int :=
  match (slotAt s.slots (r.used.getD 8)).template with
  | none => (measuredRadii s st).map fun x => x - radius
  | some t =>
    ⟨maximumRemoval t (measuredRadii s st).l (keptPoints s st).l radius,
      maximumRemoval t (measuredRadii s st).r (keptPoints s st).r radius⟩

def stepsNeeded (s : State) (m : Sides Int) : Nat := stepCountOf s.config.finishDepth s.config.maxRough m

/-- The depth test at a radius, with the reason of its failure (R150, R152). -/
def depthTest (s : State) (st : Station) (radius : Int) (reason : ExclusionReason) (r : PositionRecord) :
    PositionRecord :=
  let m := removalsAt s st r radius
  let kept := { r with maxRemoval := some m }
  if stepLimit < stepsNeeded s m then exclude reason kept else kept

def depthStep (s : State) (st : Station) (r : PositionRecord) : PositionRecord :=
  depthTest s st (r.ownRadius.getD 0) .depth r

/-- The per-axle steps in their fixed order (R141). -/
def decidePosition (s : State) (st : Station) (j : Job) : PositionRecord :=
  whileIncluded (depthStep s st)
    (whileIncluded (condemnStep s st)
      (whileIncluded (choiceStep s st j)
        (whileIncluded dispositionStep (budgetStep s st (lookedUp s st)))))

/-! ## Bogie matching (R151, R152) -/

/-- The re-check of a lowered position (R152). -/
def recheck (s : State) (st : Station) (radius : Int) (r : PositionRecord) : PositionRecord :=
  let lowered := { r with matched := true }
  if radius < condemnRadius s st then exclude .matchCondemn lowered
  else whileIncluded (fun x => { x with rFinal := some radius }) (depthTest s st radius .matchDepth lowered)

/-- The half tolerance (R151). -/
def halfTolerance (s : State) : Int := s.config.bogieTol / 2

/-- The radius that the larger axle is lowered to (R151). -/
def loweredRadius (s : State) (smaller : Int) : Int := smaller + floorToGrid (halfTolerance s)

/-- Bogie matching of two included positions (R151). -/
def matchBogie (s : State) (p : Sides PositionRecord) : Sides PositionRecord :=
  let a := p.l.ownRadius.getD 0
  let b := p.r.ownRadius.getD 0
  if magnitude (a - b) ≤ halfTolerance s then p
  else if b < a then { p with l := recheck s .one (loweredRadius s b) p.l }
  else { p with r := recheck s .two (loweredRadius s a) p.r }

/-! ## The plan (R153 to R155) -/

/-- R_final, removals, taping depths and the step list of an included position (R153). -/
def withSteps (s : State) (st : Station) (r : PositionRecord) : PositionRecord :=
  let rFinal := r.rFinal.getD (r.ownRadius.getD 0)
  let m := removalsAt s st r rFinal
  let n := stepsNeeded s m
  { r with
    rFinal := some rFinal
    maxRemoval := some m
    tapingDepth := some ((measuredRadii s st).map fun x => x - rFinal)
    stepCount := some n
    steps := makeSteps rFinal s.config.finishDepth m n }

/-- A position is bound in the open job. -/
def isBound (s : State) (st : Station) : Bool := (jobPosition s st).isSome

/-- The position records of a plan (R140, steps 1 to 4). -/
def planPositions (s : State) (j : Job) : PerStation (Option PositionRecord) :=
  let one := decidePosition s .one j
  if isBound s .two then
    let two := decidePosition s .two j
    let met := if isIncluded one && isIncluded two then matchBogie s ⟨one, two⟩ else ⟨one, two⟩
    ⟨some (whileIncluded (withSteps s .one) met.l), some (whileIncluded (withSteps s .two) met.r)⟩
  else ⟨some (whileIncluded (withSteps s .one) one), none⟩

/-- An absent position, or an included one. -/
def absentOrIncluded (p : Option PositionRecord) : Bool := p.all isIncluded

/-- The status (R155). -/
def planStatus (p : PerStation (Option PositionRecord)) : PlanStatus :=
  if !(p.one.any isIncluded || p.two.any isIncluded) then .empty
  else if absentOrIncluded p.one && absentOrIncluded p.two then .fullPlan
  else .partialPlan

/-- The plan that an admitted PLAN computes (R140). -/
def computePlan (s : State) (j : Job) : Plan :=
  let positions := planPositions s j
  ⟨j.number, j.mode, j.defaultTemplate, j.upperIndex, j.bias, planStatus positions, positions⟩

/-- The template used by an included position. -/
def usedIndex (p : Option PositionRecord) : Option Nat := (p.filter isIncluded).bind PositionRecord.used

/-- The plan uses a slot (R128). -/
def planUses (p : Plan) (i : Nat) : Bool :=
  usedIndex p.positions.one == some i || usedIndex p.positions.two == some i

/-- The locks of a new plan: the slots its included positions use, and no other (R128). -/
def lockSlots (p : Plan) (s : State) : State :=
  { s with slots := s.slots.mapIdx fun i x => { x with locked := planUses p i } }

/-- The new plan replaces the plan that stood (R140, step 6). -/
def placePlan (p : Plan) (s : State) : State :=
  let placed := lockSlots p { s with plan := some p }
  if s.cut.state == .none then setCutState .planned none placed else placed

/-- The reason an excluded position carries. -/
def exclusionReason : PlanOutcome → Option ExclusionReason
  | .included => none
  | .excluded reason => some reason

/-- FLAGS stands in the change set where CONDEMNED changed (R42). -/
def excludedChanges (before after : AxleRecord) : ChangeSet :=
  ChangeSet.historyAnd (before.condemned != after.condemned)

/-- The EXCLUDED event of a position that the plan excludes (R156). -/
def appendExcluded (p : Plan) (j : Job) (st : Station) (s : State) : State :=
  match (p.positions.get st).bind fun r => exclusionReason r.outcome, jobPosition s st with
  | some reason, some x =>
    changeBound st (excludedRecord j x.orientation (measuredDiameters (s.measurements.get st)) reason)
      excludedChanges s
  | _, _ => s

/-- An admitted PLAN with its notices in the order of R157. -/
def admitPlan (j : Job) (s : State) : State :=
  let p := computePlan s j
  let done := post (.planDone p) (placePlan p s)
  let told := if s.cut.state == .none then postCutState .none noReports done else done
  appendExcluded p j .two (appendExcluded p j .one told)

/-- A refusal of PLAN or START_CUT with its cause (R139, R164). -/
def refuseCause (c : RefusalCause) (fields : List Byte) (s : State) : State × Answer :=
  refuseWith .interlock (oneByte c.code ++ fields) s

/-- The first bound position whose measurement is not VALID (R139, row 3). -/
def firstNotValid (s : State) : Option Station :=
  if isBound s .one && s.measurements.one.state != .valid then some .one
  else if isBound s .two && s.measurements.two.state != .valid then some .two
  else none

/-- PLAN (R139, R140). -/
def servePlan (s : State) : State × Answer :=
  match s.job with
  | none => refuseCause .noJob [] s
  | some j =>
    if !(s.cut.state == .none || s.cut.state == .planned) then refuseCause .cutState [] s
    else
      match firstNotValid s with
      | some st => refuseCause .measurement (oneByte (stationNumber st)) s
      | none => answerOk (planDoneBytes (computePlan s j)) (admitPlan j s)

/-! ## READ_PLAN (R158); the layout is the model's reading of R202 (log 9) -/

def sidesBytes (x : Sides Int) : List Byte := lengthBytes x.l ++ lengthBytes x.r

def optSidesBytes : Option (Sides Int) → List Byte
  | some x => sidesBytes x
  | none => bytesOf 6 0

/-- An entry of the evaluation table: its mark and three radii, 0 where absent. -/
def evaluationBytes (e : Evaluation) : List Byte :=
  oneByte e.code ++ (match e with
    | .evaluated a b c => lengthBytes a ++ lengthBytes b ++ lengthBytes c
    | _ => bytesOf 9 0)

/-- A step entry: number, kind, then for each side its depth and its target (R138, R202). -/
def stepBytes (e : StepEntry) : List Byte :=
  oneByte e.number ++ oneByte e.kind.code ++ lengthBytes e.depth.l ++ lengthBytes e.target.l ++ lengthBytes e.depth.r
    ++ lengthBytes e.target.r

/-- The presence bits of a position record's optional items. -/
def positionPresence (r : PositionRecord) : Nat :=
  boolBit r.chosen.isSome 1 + boolBit r.used.isSome 2 + boolBit r.ownRadius.isSome 4 + boolBit r.rFinal.isSome 8
    + boolBit r.maxRemoval.isSome 16 + boolBit r.tapingDepth.isSome 32 + boolBit r.stepCount.isSome 64
    + boolBit r.rTap.isSome 128

/-- A position record in the order of R137. -/
def positionBytes (r : PositionRecord) : List Byte :=
  oneByte 1 ++ oneByte (positionPresence r) ++ oneByte r.outcome.code ++ lengthBytes r.thinnerFt
    ++ oneByte r.lookup.code ++ r.evaluations.flatMap evaluationBytes ++ optByte r.chosen ++ optByte r.used
    ++ optLengthBytes r.ownRadius ++ boolByte r.matched ++ optLengthBytes r.rFinal ++ optSidesBytes r.rTap
    ++ optSidesBytes r.maxRemoval ++ optSidesBytes r.tapingDepth ++ optByte r.stepCount ++ r.steps.flatMap stepBytes

/-- A position record, or 115 zeros: its presence byte and its bytes without a step list (R202). -/
def positionOrAbsent : Option PositionRecord → List Byte
  | some r => positionBytes r
  | none => bytesOf 115 0

/-- The items of R136 in their order. -/
def planBytes (p : Plan) : List Byte :=
  unsignedBytes 2 p.jobNumber ++ oneByte p.mode.code ++ oneByte p.defaultTemplate ++ oneByte p.upperIndex
    ++ signedBytes 1 p.bias ++ oneByte p.status.code ++ positionOrAbsent p.positions.one
    ++ positionOrAbsent p.positions.two

/-- READ_PLAN (R158). -/
def serveReadPlan (s : State) : State × Answer :=
  match s.plan with
  | none => answerOk (oneByte 0) s
  | some p => answerOk (oneByte 1 ++ planBytes p) s

end Sys2Proof.Machine
end

