-- ==== Sys2Proof/Machine/Cut.lean ====
section
/-! DEFINITION. The Cut Sequencer (Chapter 9): starting a cut, issuing, completing and losing its steps, its suspension and
its end, and the tools. -/

namespace Sys2Proof.Machine

/-! ## Per-station contents of replies -/

/-- The items of both contexts in a reply: a presence byte before each station, and none before a step number (log 9). -/
def stationItems (s : State) (width : Nat) (items : CutContext → List Byte) : List Byte :=
  bothStations s width fun st => items (s.cut.contexts.get st)

/-! ## START_CUT (R164, R165) -/

/-- The record bound to an included position has budget 0 (R164, row 4). -/
def budgetSpent (s : State) (st : Station) : Bool :=
  planIncludes s st && ((boundRecord s st).map AxleRecord.budget).getD 0 == 0

/-- The context of an included position at START_CUT (R165). -/
def firstContext : CutContext := { CutContext.empty with next := some 1 }

/-- The context of a station at START_CUT (R165, step 1). -/
def openedContext (s : State) (st : Station) : CutContext := if planIncludes s st then firstContext else .empty

/-- An accepted START_CUT (R165). -/
def startCut (s : State) : State :=
  postCutState s.cut.state noReports
    (setCutState .running none (setContext .two (openedContext s .two) (setContext .one (openedContext s .one) s)))

/-- Whether the standing plan includes no axle (R164, row 2). -/
def planEmpty (s : State) : Bool := s.plan.all fun p => p.status == .empty

/-- START_CUT (R164). -/
def serveStartCut (s : State) : State × Answer :=
  if s.cut.state != .planned then refuseCause .cutState [] s
  else if planEmpty s then refuseCause .emptyPlan [] s
  else if s.interlock.phase == .halted then refuseCause .halted [] s
  else if budgetSpent s .one then refuseCause .budget (oneByte 1) s
  else if budgetSpent s .two then refuseCause .budget (oneByte 2) s
  else
    let next := startCut s
    answerOk (stationItems next 1 fun c => optByte c.next) next

/-! ## TAKE_PASS (R166, R167) -/

/-- The depths of a step at a station; 0 for a number that the plan's list does not hold. -/
def depthsOf (s : State) (st : Station) (step : Nat) : Sides Int :=
  ((stepEntry s st step).map StepEntry.depth).getD ⟨0, 0⟩

/-- The edge life of a tool is 0 on a side that the step cuts (R166, row 7). -/
def wornTools (s : State) (st : Station) (step : Nat) : Sides Bool :=
  let d := depthsOf s st step
  let lives := s.cut.tools.get st
  ⟨decide (0 < d.l) && lives.l == 0, decide (0 < d.r) && lives.r == 0⟩

/-- An issued step (R167). -/
def issueStep (st : Station) (step : Nat) (s : State) : State :=
  rederive
    (setStepTimer st (some (1000 * s.config.stepTime).toNat)
      (setContext st
        { s.cut.contexts.get st with inFlight := some step, late := none, stepTime := some s.config.stepTime } s))

/-- The step record of an issued step, formed from the plan (R167, 12.5). -/
def issuedRecord (s : State) (st : Station) (step : Nat) : List Byte :=
  match stepEntry s st step with
  | none => []
  | some e => stepRecordBytes (jobNumber s) st (((planRecord s st).bind PositionRecord.used).getD 0) e

/-- Rows 7 and 8 of R166. -/
def offerStep (st : Station) (step : Nat) (s : State) : State × Answer :=
  let worn := wornTools s st step
  if worn.l || worn.r then refuseWith .tool (oneByte (boolBit worn.l 1 + boolBit worn.r 2)) s
  else answerOk (unsignedBytes 2 s.config.stepTime ++ issuedRecord s st step) (issueStep st step s)

/-- TAKE_PASS (R166). -/
def serveTakePass (station : Nat) (s : State) : State × Answer :=
  match stationArg s station with
  | none => refuse .form s
  | some st =>
    if s.cut.state != .running then refuse .interlock s
    else if !workAdmitted s st then refuse .interlock s
    else if scanInFlight s st then refuse .busy s
    else if (stepInFlight s st).isSome then refuse .inFlight s
    else
      match (s.cut.contexts.get st).next with
      | none => refuse .none s
      | some step => offerStep st step s

/-! ## PASS_DONE (R169 to R172) -/

/-- A completed step lowers the edge life of each side that it cut (R169, step 2). -/
def wearTool (depth : Int) (life : Nat) : Nat := if 0 < depth then life - 1 else life

/-- A tool whose life falls to 0 at this step (R169, step 2). -/
def wornOut (depth : Int) (life : Nat) : Bool := decide (0 < depth) && life == 1

def setTools (st : Station) (t : Sides Nat) (s : State) : State :=
  { s with cut := { s.cut with tools := s.cut.tools.set st t } }

/-- The tools of a station after a completed step. -/
def wornTo (depths : Sides Int) (lives : Sides Nat) : Sides Nat := ⟨wearTool depths.l lives.l, wearTool depths.r lives.r⟩

/-- The step is the FINISH step of its list. -/
def isFinish (s : State) (st : Station) (step : Nat) : Bool :=
  (stepEntry s st step).any fun e => e.kind == .finish

/-- The context after a completed step (R169 steps 1, 3 and 5, R170 step 1). -/
def bookedContext (finish : Bool) (step : Nat) (c : CutContext) : CutContext :=
  { c with
    inFlight := none
    completed := c.completed + 1
    firstDone := true
    axleDone := c.axleDone || finish
    next := if finish then none else some (step + 1) }

/-- Every axle that the plan includes is done (R169, step 6). -/
def axlesDone (s : State) : Bool :=
  (!planIncludes s .one || s.cut.contexts.one.axleDone) && (!planIncludes s .two || s.cut.contexts.two.axleDone)

/-- The cut becomes COMPLETE and its locks are released where every included axle is done (R171, log 22). -/
def completeCut (s : State) : State :=
  if cutUnderWay s && s.plan.isSome && axlesDone s then releaseLocks (setCutState .complete none s) else s

/-- The change of the bound record at a completed step: the budget at the axle's first, the finish booking at its last
(R36, R37, R170). -/
def bookedRecord (j : Job) (p : PositionRecord) (first finish : Bool) (r : AxleRecord) : AxleRecord :=
  let spent := if first then spendBudget r else r
  if finish then
    let m := p.maxRemoval.getD ⟨0, 0⟩
    finishRecord j (p.rFinal.getD 0) (p.used.getD 0) (maxInt m.l m.r) spent
  else spent

/-- The change set of a completed step (R36, R37, log 31). -/
def bookedChanges (first finish : Bool) : ChangeSet where
  history := finish
  budget := first
  diameters := finish
  wear := false
  flags := finish
  binding := false

/-- Books the record of a completed step where one of its changes falls at it (R169 step 3, R170). -/
def bookRecord (st : Station) (first finish : Bool) (s : State) : State :=
  if first || finish then
    match s.job, planRecord s st with
    | some j, some p => changeBound st (bookedRecord j p first finish) (fun _ _ => bookedChanges first finish) s
    | _, _ => s
  else s

/-- The measurement after a completed step: STALE, and due for verification after the finish step (R117, R119). -/
def bookMeasurement (st : Station) (finish : Bool) (s : State) : State :=
  let stale := staleMeasurement (s.measurements.get st)
  setMeasurement st
    (if finish then dueMeasurement (((planRecord s st).bind PositionRecord.rFinal).getD 0) stale else stale) s

/-- The booking of a completed step in the Cut Sequencer and the Measurement Unit (R169, steps 1, 2, 4 and 5). -/
def bookStep (st : Station) (step : Nat) (s : State) : State :=
  let finish := isFinish s st step
  bookMeasurement st finish
    (setTools st (wornTo (depthsOf s st step) (s.cut.tools.get st))
      (setStepTimer st none (setContext st (bookedContext finish step (s.cut.contexts.get st)) s)))

/-- A step completes (R169), with the notices in the order of R172. -/
def completeStep (st : Station) (step : Nat) (s : State) : State :=
  let finish := isFinish s st step
  let first := !(s.cut.contexts.get st).firstDone
  let depths := depthsOf s st step
  let lives := s.cut.tools.get st
  let told := postCutState s.cut.state (reportAt st (.completed step)) (completeCut (bookStep st step s))
  let outL := postIf (wornOut depths.l lives.l) (.toolOut st .l) told
  let outR := postIf (wornOut depths.r lives.r) (.toolOut st .r) outL
  bookRecord st first finish (rederive outR)

/-- The contents of the OK reply to PASS_DONE (R169). The next step is one byte, 0 for none, with no presence byte (log 9). -/
def passReply (st : Station) (step : Nat) (s : State) : List Byte :=
  let c := s.cut.contexts.get st
  let lives := s.cut.tools.get st
  oneByte step ++ oneByte c.completed ++ optByte c.next ++ boolByte c.axleDone ++ oneByte lives.l ++ oneByte lives.r
    ++ oneByte s.cut.state.code

/-- Rows 2 to 4 of R169 and R175: the report names the step in flight, or a late step, or neither. -/
def reportStep (st : Station) (step : Nat) (carryOut : State × Answer) (s : State) : State × Answer :=
  if stepInFlight s st = some step then carryOut
  else if (s.cut.contexts.get st).late = some step then refuse .late s
  else refuse .stale s

/-- The step number lies in 1..8 (R169, R175, row 1). -/
def stepNumberValid (step : Nat) : Bool := decide (1 ≤ step) && decide (step ≤ stepLimit)

/-- PASS_DONE (R169). -/
def servePassDone (station step : Nat) (s : State) : State × Answer :=
  match stationArg s station with
  | none => refuse .form s
  | some st =>
    if !stepNumberValid step then refuse .form s
    else
      let next := completeStep st step s
      reportStep st step (answerOk (passReply st step next) next) s

/-! ## Losing a step (R173 to R175) -/

/-- PASS_ABORTED (R175). -/
def servePassAborted (station step : Nat) (s : State) : State × Answer :=
  match stationArg s station with
  | none => refuse .form s
  | some st =>
    if !stepNumberValid step then refuse .form s
    else reportStep st step (answerOk [] (rederive (loseStep st .latheAbort s))) s

/-- The expiry of a step timer (R174); a timer that does not run does not expire (R168, log 20). -/
def expireStep (st : Station) (s : State) : State :=
  match stepInFlight s st with
  | none => s
  | some step =>
    if (s.cut.timers.get st).isSome then
      rederive (loseStep st .timeout (setContext st { s.cut.contexts.get st with late := some step } s))
    else s

/-! ## Suspending, resuming and abandoning (R177 to R180) -/

/-- SUSPEND_CUT (R177). -/
def serveSuspendCut (s : State) : State × Answer :=
  match s.cut.state with
  | .running => answerOk [] (postCutState .running noReports (setCutState .suspended (some .operator) s))
  | .suspended => answerOk [] s
  | _ => refuse .interlock s

/-- A station's items in the OK reply to RESUME_CUT (R178): three bytes, 0 for none, with no presence byte before each, which is
the model's reading (log 9). -/
def resumeItems (c : CutContext) : List Byte := optByte c.next ++ optByte c.inFlight ++ optByte c.late

/-- RESUME_CUT (R178). -/
def serveResumeCut (s : State) : State × Answer :=
  if s.cut.state != .suspended || s.interlock.phase == .halted then refuse .interlock s
  else
    let next := postCutState .suspended noReports (setCutState .running none s)
    answerOk (stationItems next 3 resumeItems) next

/-- An included axle with completed steps that is not done (R180, step 1). -/
def partlyCut (s : State) (st : Station) : Bool :=
  let c := s.cut.contexts.get st
  planIncludes s st && decide (1 ≤ c.completed) && !c.axleDone

/-- The PARTIAL_CUT event of a partly cut axle (R180). -/
def appendPartialCut (st : Station) (s : State) : State :=
  if partlyCut s st then
    match s.job with
    | some j =>
      changeBound st (partialCutRecord j (s.cut.contexts.get st).completed)
        (fun before after => ChangeSet.historyAnd (before.remeasure != after.remeasure)) s
    | none => s
  else s

/-- An ABANDON_CUT from RUNNING or SUSPENDED (R180). -/
def abandonCut (s : State) : State :=
  appendPartialCut .two
    (appendPartialCut .one (postCutState s.cut.state noReports (releaseLocks (setCutState .abandoned none s))))

/-- ABANDON_CUT (R179). -/
def serveAbandonCut (s : State) : State × Answer :=
  if s.cut.state == .none || s.cut.state == .complete || s.cut.state == .abandoned then refuse .interlock s
  else if anyStepInFlight s then refuse .busy s
  else if s.cut.state == .planned then answerOk [] (discardPlanned s)
  else answerOk [] (abandonCut s)

/-! ## Tools (R181) -/

/-- TOOL_CHANGED (R181). -/
def serveToolChanged (station side life : Nat) (s : State) : State × Answer :=
  match stationArg s station, sideOf side with
  | some st, some sd =>
    if !inRange 1 255 life then refuse .form s
    else if (stepInFlight s st).isSome then refuse .inFlight s
    else
      answerOk (oneByte (stationNumber st) ++ oneByte (sideCode sd) ++ oneByte life)
        (setTools st ((s.cut.tools.get st).set sd life) s)
  | _, _ => refuse .form s

end Sys2Proof.Machine
end

