-- ==== Sys2Proof/Machine/Settings.lean ====
section
/-! DEFINITION. The configuration (R198 to R200): item numbers, ranges, SET_CONFIG and READ_CONFIG. -/

namespace Sys2Proof.Machine

/-! ## Items, indices and ranges (R198, 12.8) -/

/-- An item with an index takes 1..4, every other item 0 (12.8). -/
def itemIndexed (item : Nat) : Bool := decide (9 ≤ item) && decide (item ≤ 12)

/-- Row 1 of R199: the number names an item and the index suits it. -/
def itemNamed (item index : Nat) : Bool :=
  decide (1 ≤ item) && decide (item ≤ 25)
    && (if itemIndexed item then decide (1 ≤ index) && decide (index ≤ 4) else index == 0)

/-- The items marked † in R198. -/
def itemMarked (item : Nat) : Bool :=
  (decide (9 ≤ item) && decide (item ≤ 15)) || (decide (19 ≤ item) && decide (item ≤ 23))

/-- The range of an item (R198); FL and FH bound each other (R199). -/
def itemRange (c : Configuration) : Nat → Int × Int
  | 1 => (100, minInt 5000 c.fh)
  | 2 => (maxInt 500 c.fl, 40000)
  | 3 => (100, 20000)
  | 4 => (-50000, 50000)
  | 5 => (500, 10000)
  | 6 => (200, 5000)
  | 7 => (50, 1000)
  | 8 => (500, 10000)
  | 9 => (-20000, 20000)
  | 10 => (250000, 700000)
  | 11 => (50000, 200000)
  | 12 => (256, 65536)
  | 13 => (60000, 80000)
  | 14 => (5000, 15000)
  | 15 => (1000, 4000)
  | 16 => (5000, 120000)
  | 17 => (20, 1000)
  | 18 => (20, 500)
  | 19 => (100, 2000)
  | 20 => (200, 1500)
  | 21 => (1000, 6000)
  | 22 => (0, 5000)
  | 23 => (20000, 35000)
  | 24 => (60, 3600)
  | 25 => (0, 65535)
  | _ => (0, 0)

/-- Sets the value of jack 1..4. -/
def setJack (j : Jacks Int) : Nat → Int → Jacks Int
  | 1, v => { j with j1 := v }
  | 2, v => { j with j2 := v }
  | 3, v => { j with j3 := v }
  | 4, v => { j with j4 := v }
  | _, _ => j

/-- Sets the value of channel 1..4: S1L, S1R, S2L, S2R (12.8). -/
def setChannel (p : PerStation (Sides Int)) : Nat → Int → PerStation (Sides Int)
  | 1, v => p.set .one (p.one.set .l v)
  | 2, v => p.set .one (p.one.set .r v)
  | 3, v => p.set .two (p.two.set .l v)
  | 4, v => p.set .two (p.two.set .r v)
  | _, _ => p

/-- Stores a value in an item. -/
def storeItem (c : Configuration) (index : Nat) (v : Int) : Nat → Configuration
  | 1 => { c with fl := v }
  | 2 => { c with fh := v }
  | 3 => { c with acceleration := v }
  | 4 => { c with rampOffset := v }
  | 5 => { c with tiltLimit := v }
  | 6 => { c with followLimit := v }
  | 7 => { c with window := v }
  | 8 => { c with settleTime := v }
  | 9 => { c with trims := setJack c.trims index v }
  | 10 => { c with refRadius := setChannel c.refRadius index v }
  | 11 => { c with rollerDia := setChannel c.rollerDia index v }
  | 12 => { c with rollerCounts := setChannel c.rollerCounts index v }
  | 13 => { c with yTap := v }
  | 14 => { c with hRef := v }
  | 15 => { c with qrOffset := v }
  | 16 => { c with scanTime := v }
  | 17 => { c with agreeTol := v }
  | 18 => { c with verifyTol := v }
  | 19 => { c with cleanUp := v }
  | 20 => { c with finishDepth := v }
  | 21 => { c with maxRough := v }
  | 22 => { c with bogieTol := v }
  | 23 => { c with ftMin := v }
  | 24 => { c with stepTime := v }
  | 25 => { c with wearAlertRate := v }
  | _ => c

/-! ## SET_CONFIG (R199) -/

/-- The value that a request stores: itself, or the nearer end of the range. -/
def storedValue (c : Configuration) (item : Nat) (v : Int) : Int :=
  clampInt (itemRange c item).1 (itemRange c item).2 v

/-- Stores the configuration; a changed y_tap tests the loaded templates (R127). -/
def setConfiguration (c : Configuration) (s : State) : State :=
  if c.yTap = s.config.yTap then { s with config := c }
  else { s with config := c, slots := s.slots.map (testTaping c.yTap) }

/-- A changed in-position window re-derives the phase with a job open (R2, R199). -/
def takeConfiguration (c : Configuration) (s : State) : State :=
  let stored := setConfiguration c s
  if c.window ≠ s.config.window ∧ s.job.isSome then rederive stored else stored

/-- The contents of the OK and ADJUSTED replies: item, index and the value stored (R199). -/
def configReply (item index : Nat) (v : Int) : List Byte := oneByte item ++ oneByte index ++ signedBytes 4 v

/-- SET_CONFIG (R199). -/
def serveSetConfig (item index : Nat) (value : Int) (s : State) : State × Answer :=
  if !itemNamed item index then refuse .form s
  else if itemMarked item && s.interlock.phase != .idle then refuse .interlock s
  else
    let v := storedValue s.config item value
    (takeConfiguration (storeItem s.config index v item) s,
      ⟨if v = value then .ok else .adjusted, configReply item index v⟩)

/-! ## READ_CONFIG (R200) -/

def channelValues (p : PerStation (Sides Int)) : List Int := [p.one.l, p.one.r, p.two.l, p.two.r]

/-- The 37 values in item order (12.8). -/
def configValues (c : Configuration) : List Int :=
  [c.fl, c.fh, c.acceleration, c.rampOffset, c.tiltLimit, c.followLimit, c.window, c.settleTime]
    ++ jacksList c.trims ++ channelValues c.refRadius ++ channelValues c.rollerDia ++ channelValues c.rollerCounts
    ++ [c.yTap, c.hRef, c.qrOffset, c.scanTime, c.agreeTol, c.verifyTol, c.cleanUp, c.finishDepth, c.maxRough,
      c.bogieTol, c.ftMin, c.stepTime, c.wearAlertRate]

/-- READ_CONFIG (R200). -/
def serveReadConfig (s : State) : State × Answer := answerOk ((configValues s.config).flatMap (signedBytes 4)) s

end Sys2Proof.Machine
end

