-- ==== Sys2Proof/Machine/Status.lean ====
section
/-! DEFINITION. READ_STATUS (R197): what each block supplies, in the order of its table. The layout is the model's reading
of R202 (log 9): each item in the width of its quantity, each flag one byte, a presence byte before each optional item and
each station or position, and 0 in the bytes of what is absent. A step number that may be none is the one exception: it is one
byte, 0 for none, with no presence byte before it. -/

namespace Sys2Proof.Machine

def portStatus (q : Port) : List Byte :=
  boolByte q.lost ++ boolByte q.framing ++ boolByte q.overrun ++ boolByte q.restart ++ oneByte q.noticeNumber.toNat
    ++ oneByte q.queue.length

/-- The Link Unit's part (R197). -/
def linkStatus (s : State) : List Byte :=
  oneByte s.straps.linkRate.code ++ portStatus s.ports.depot ++ portStatus s.ports.lathe ++ portStatus s.ports.console

/-- R19. 12.7 gives a clamp state, a permit output and the e-stop latch no code: one byte each, 1 for CLAMPED, asserted and set, 0
otherwise, is the model's choice (log 9). -/
def pitStatus (s : State) : List Byte :=
  oneByte s.interlock.phase.code ++ oneByte s.interlock.causes.code ++ boolByte s.interlock.estopLatch
    ++ bothStations s 1 (fun st => boolByte (s.interlock.clamped.get st))
    ++ bothStations s 1 (fun st => boolByte (s.interlock.permits.get st))

def jobPositionBytes (p : JobPosition) : List Byte := p.identity ++ oneByte p.orientation.code

/-- The 56 bytes of an open job. -/
def openJobBytes (j : Job) : List Byte :=
  unsignedBytes 2 j.number ++ lengthBytes j.odometer ++ optionalBytes 21 jobPositionBytes (some j.position1)
    ++ optionalBytes 21 jobPositionBytes j.position2 ++ oneByte j.mode.code ++ oneByte j.defaultTemplate
    ++ oneByte j.upperIndex ++ signedBytes 1 j.bias ++ lengthBytes j.supportHeight

/-- R59. A closed job's bytes are 0 (R202). -/
def jobStatus (s : State) : List Byte :=
  oneByte (match s.straps.stationCount with
    | .single => 1
    | .tandem => 2)
    ++ optionalBytes 56 openJobBytes s.job

def axisStatus (a : Axis) : List Byte :=
  lengthBytes a.command ++ lengthBytes a.measured ++ signedBytes 4 a.followingError
    ++ optionalBytes 3 lengthBytes a.target

def moveBytes (m : Move) : List Byte := lengthBytes m.target ++ oneByte m.moveClass.code

/-- R86. Neither it nor 12.7 gives the brake state a code: one byte, 1 for applied and 0 for released, is the model's choice
(log 9), and so is the byte of the stopping mark, 1 where the working move is stopping. -/
def liftStatus (s : State) : List Byte :=
  oneByte s.lift.state.code ++ boolByte s.lift.stopping ++ unsignedBytes 2 s.lift.speed
    ++ (jacksList s.lift.axes).flatMap axisStatus ++ optionalBytes 4 moveBytes s.lift.working
    ++ optionalBytes 4 moveBytes s.lift.staged ++ lengthBytes (configuredSpread s) ++ boolByte s.lift.brakesApplied

def scanSideStatus (x : ScanSide) : List Byte :=
  unsignedBytes 2 x.points.length ++ unsignedBytes 2 x.disorder ++ boolByte x.truncated ++ boolByte x.endMarker
    ++ oneByte x.captures.length

def timeLeftBytes (t : Nat) : List Byte := unsignedBytes 4 t

def scanStationStatus (x : Scan) : List Byte :=
  oneByte x.state.code ++ scanSideStatus x.sides.l ++ scanSideStatus x.sides.r ++ optionalBytes 4 timeLeftBytes x.timer

def rollerBytes (c : RollerCount) : List Byte := unsignedBytes 4 c.toNat

/-- R104. Its four roller counts go once, after the items of both stations and with no presence byte, in a single-station
pit too: the model's reading (log 9). -/
def scanStatus (s : State) : List Byte :=
  bothStations s 20 (fun st => scanStationStatus (s.scans.get st)) ++ rollerBytes s.rollers.one.l
    ++ rollerBytes s.rollers.one.r ++ rollerBytes s.rollers.two.l ++ rollerBytes s.rollers.two.r

def measurementStatusOf (m : Measurement) : List Byte :=
  oneByte m.state.code ++ oneByte (reasonCode m.reason) ++ oneByte (reasonWheelCode m.reasonWheel)
    ++ boolByte m.verifyDue

/-- The Measurement Unit's part (R197). -/
def measurementStatus (s : State) : List Byte :=
  bothStations s 4 fun st => measurementStatusOf (s.measurements.get st)

/-- R134. -/
def templateStatus (s : State) : List Byte :=
  s.slots.toList.flatMap (slotBytes s.config.ftMin) ++ oneByte s.disposition.entries.length

def outcomeBytes (r : PositionRecord) : List Byte := oneByte r.outcome.code

/-- R158. -/
def planStatusBytes (s : State) : List Byte :=
  match s.plan with
  | none => bytesOf 6 0
  | some p =>
    oneByte 1 ++ oneByte p.status.code ++ optionalBytes 1 outcomeBytes p.positions.one
      ++ optionalBytes 1 outcomeBytes p.positions.two

/-- A station's context. Next step, step in flight and late mark are one byte each, 0 for none, with no presence byte: the model's
reading, after 12.6 (log 9). -/
def contextStatus (c : CutContext) (timer : Option Nat) : List Byte :=
  optByte c.next ++ optByte c.inFlight ++ oneByte c.completed ++ boolByte c.firstDone ++ boolByte c.axleDone
    ++ optByte c.late ++ optionalBytes 4 timeLeftBytes timer

/-- R183. -/
def cutStatus (s : State) : List Byte :=
  oneByte s.cut.state.code ++ oneByte (suspendCode s.cut.cause)
    ++ bothStations s 11 (fun st => contextStatus (s.cut.contexts.get st) (s.cut.timers.get st))
    ++ oneByte s.cut.tools.one.l ++ oneByte s.cut.tools.one.r ++ oneByte s.cut.tools.two.l
    ++ oneByte s.cut.tools.two.r

/-- The contents of a READ_STATUS reply, in the order of R197. -/
def statusBytes (s : State) : List Byte :=
  linkStatus s ++ pitStatus s ++ jobStatus s ++ oneByte s.store.length ++ liftStatus s ++ scanStatus s
    ++ measurementStatus s ++ templateStatus s ++ planStatusBytes s ++ cutStatus s

/-- READ_STATUS: the reply shows the flags of the port that asked as they were, and then they are cleared (R197). -/
def serveReadStatus (port : PortId) (s : State) : State × Answer :=
  answerOk (statusBytes s) (s.setPort port (clearPortFlags (s.ports.get port)))

end Sys2Proof.Machine
end

