-- ==== Sys2Proof/Machine/Link.lean ====
section
/-! DEFINITION. The Link Unit (Chapter 11): handing a request to its owner, the receive buffer, the receiver with its two-part
requests, and the end of a transmission. -/

namespace Sys2Proof.Machine

/-! ## Requests (R189, R190, R192) -/

/-- The table of R190: which message codes a port's role may send. -/
def roleAllows (code : Byte) (port : PortId) : Bool :=
  match code.toNat with
  | 0x01 | 0x03 | 0x10 | 0x18 | 0x1A | 0x20 => port == .depot
  | 0x02 | 0x04 | 0x19 | 0x1B | 0x21 | 0x22 | 0x41 | 0x49 => true
  | 0x11 => port != .lathe
  | 0x30 | 0x31 | 0x40 | 0x58 | 0x59 | 0x5A | 0x5B => port == .lathe
  | 0x32 | 0x38 | 0x39 | 0x48 | 0x50 | 0x51 | 0x52 | 0x53 => port == .console
  | _ => false

/-- Hands a request to its owning block (R190, row 4). The two kinds that reach no block answer FORM. -/
def serveOwner (port : PortId) (r : Request) (s : State) : State × Answer :=
  match r with
  | .loadAxle image => serveLoadAxle image s
  | .readAxle identity => serveReadAxle identity s
  | .unloadAxle identity => serveUnloadAxle identity s
  | .listAxles start => serveListAxles start s
  | .setJob fields => serveSetJob fields s
  | .closeJob => serveCloseJob s
  | .loadTemplate index fields => serveLoadTemplate index fields s
  | .readTemplate index => serveReadTemplate index s
  | .loadDisposition fields => serveLoadDisposition fields s
  | .readDisposition => serveReadDisposition s
  | .setConfig item index value => serveSetConfig item index value s
  | .readConfig => serveReadConfig s
  | .readStatus => serveReadStatus port s
  | .clampRequest station => serveClampRequest station s
  | .unclampReport station => serveUnclampReport station s
  | .ackFault => serveAckFault s
  | .liftMove target moveClass => serveLiftMove target moveClass s
  | .liftStopDecel => serveLiftStopDecel s
  | .liftStopImmediate => serveLiftStopImmediate s
  | .startMeasure station => serveStartMeasure station s
  | .readMeasure position => serveReadMeasure position s
  | .plan => servePlan s
  | .readPlan => serveReadPlan s
  | .startCut => serveStartCut s
  | .suspendCut => serveSuspendCut s
  | .resumeCut => serveResumeCut s
  | .abandonCut => serveAbandonCut s
  | .takePass station => serveTakePass station s
  | .passDone station step => servePassDone station step s
  | .passAborted station step => servePassAborted station step s
  | .toolChanged station side life => serveToolChanged station side life s
  | .unknownCode _ => refuse .form s
  | .badPayload _ => refuse .form s

/-- The table of R190: an unknown code, then the role, then the payload, then the owner. -/
def serveRequest (port : PortId) (r : Request) (s : State) : State × Answer :=
  match r with
  | .unknownCode _ => refuse .form s
  | _ => if roleAllows r.code port then serveOwner port r s else refuse .role s

/-- The reply to a taken request, with the restart mark that stood when the request was taken (R192, R197, log 29). -/
def replyTo (w : Waiting) (restart : Bool) (a : Answer) : Reply := ⟨w.request.code, w.tag, restart, a⟩

/-- A request is taken whole at one event: served, the buffer emptied, the reply put into the slot (R190, R192). -/
def takeRequest (port : PortId) (w : Waiting) (s : State) : State :=
  let served := serveRequest port w.request s
  served.1.setPort port
    { served.1.ports.get port with buffer := none, reply := some (replyTo w (s.ports.get port).restart served.2) }

/-- A complete request meets the receive buffer and the reply slot (R189). -/
def offerRequest (port : PortId) (w : Waiting) (s : State) : State :=
  let q := s.ports.get port
  if q.buffer.isSome then s.setPort port (setOverrun q)
  else if q.reply.isSome then s.setPort port { q with buffer := some w }
  else takeRequest port w s

/-- A request as a command: a complete request frame of its kind arrives at a port. It does not pass through the receiver, so a
frame under way and a held first part stay as they are, and FRAMING with them (log 4). -/
def arrive (port : PortId) (tag : Byte) (r : Request) (s : State) : Host.Outcome State Fault Refusal :=
  takeEvent (offerRequest port ⟨tag, r⟩) s

/-! ## The receiver (R187, R204) -/

/-- The idle steps of the byte-gap timer: more than 2 ms (R187, log 28). -/
def byteGap : Nat := 3

/-- A frame is discarded with any held part, FRAMING is set, and the receiver hunts (R187, R204). -/
def discardFrame (q : Port) : Port :=
  setFraming { q with receive := .hunting, received := [], held := none, gapTimer := none }

/-- A held part is discarded and FRAMING is set (R204). Without one, nothing changes. -/
def discardPart (q : Port) : Port :=
  if q.held.isSome then setFraming { q with held := none, gapTimer := none } else q

/-- The frame type of a header byte (12.1); the bits that the layout does not name, and the restart mark, are ignored
(R202, log 6). -/
def isRequestType (frameType : Byte) : Bool := frameType.toNat % 4 == requestKind

def isContinued (frameType : Byte) : Bool := frameType.getLsbD 6

/-- A complete REQUEST frame with no part held: a first part is held, a first part of another length than 240 is
discarded, and a whole request is offered (R189, R204). -/
def takeWhole (port : PortId) (frameType code tag : Byte) (payload : List Byte) (s : State) : State :=
  let q := s.ports.get port
  if isContinued frameType then
    if payload.length = maxPayload then
      s.setPort port { q with held := some ⟨code, tag, payload⟩, gapTimer := some byteGap }
    else s.setPort port (setFraming q)
  else offerRequest port ⟨tag, readRequest code payload⟩ s

/-- The frame is the second part of the held request (R204). -/
def matchesPart (h : HeldPart) (frameType code tag : Byte) : Bool :=
  !isContinued frameType && code == h.code && tag == h.tag

/-- A frame with a good CRC completes (R187, R189, R204). A frame that does not continue the held part discards the part
with FRAMING and is then taken as with no part held (log 32). -/
def completeFrame (port : PortId) (frameType code tag : Byte) (payload : List Byte) (s : State) : State :=
  let q := { s.ports.get port with receive := .hunting, received := [], gapTimer := none }
  if !isRequestType frameType then s.setPort port (discardFrame q)
  else
    match q.held with
    | none => takeWhole port frameType code tag payload (s.setPort port q)
    | some h =>
      if matchesPart h frameType code tag then
        offerRequest port ⟨tag, readRequest code (h.payload ++ payload)⟩ (s.setPort port { q with held := none })
      else takeWhole port frameType code tag payload (s.setPort port (setFraming { q with held := none }))

/-- The payload length that a header carries. -/
def headerLength (received : List Byte) : Nat := numberAt received 3 1

/-- The header and the payload of the frame being received. -/
def frameBody (received : List Byte) : List Byte := received.take (4 + headerLength received)

/-- The CRC matches the two bytes that follow the payload (R188). -/
def crcMatches (received : List Byte) : Bool :=
  received.drop (4 + headerLength received) == bytesOf 2 (crcOf (frameBody received)).toNat

/-- What a byte added to the frame being received brings about (R187): the length test at the fourth header byte, the CRC
test at the last CRC byte. -/
def judgeFrame (port : PortId) (received : List Byte) (s : State) : State :=
  let q := s.ports.get port
  if received.length = 4 ∧ maxPayload < headerLength received then s.setPort port (discardFrame q)
  else if received.length < 4 ∨ received.length < headerLength received + 6 then
    s.setPort port { q with received := received, gapTimer := some byteGap }
  else if crcMatches received then
    completeFrame port (byteAt received 0) (byteAt received 1) (byteAt received 2) ((frameBody received).drop 4) s
  else s.setPort port (discardFrame q)

/-- A byte with its stop bit (R187, R204). -/
def receiveByte (port : PortId) (b : Byte) (s : State) : State :=
  let q := s.ports.get port
  match q.receive with
  | .hunting =>
    if b = startMarker then
      s.setPort port { q with receive := .receiving, received := [], gapTimer := some byteGap }
    else s.setPort port (discardPart q)
  | .receiving => judgeFrame port (q.received ++ [b]) s

/-- A character with its stop bit missing (R187, log 7). -/
def receiveBroken (port : PortId) (s : State) : State :=
  let q := s.ports.get port
  match q.receive with
  | .hunting => s.setPort port (discardPart q)
  | .receiving => s.setPort port (discardFrame q)

/-- A character of a link. -/
def receiveCharacter (port : PortId) (b : Byte) (stopBit : Bool) (s : State) : State :=
  if stopBit then receiveByte port b s else receiveBroken port s

/-- The bytes of a frame, one by one (log 5). -/
def receiveBytes (port : PortId) (bytes : List Byte) (s : State) : State :=
  bytes.foldl (fun x b => receiveByte port b x) s

/-- The expiry of the byte-gap timer: in a frame, or before the second part of a held request (R187, R204); a timer that
does not run does not expire (log 20). -/
def expireByteGap (port : PortId) (s : State) : State :=
  let q := s.ports.get port
  if q.gapTimer.isNone then s
  else
    match q.receive with
    | .receiving => s.setPort port (discardFrame q)
    | .hunting => s.setPort port (discardPart { q with gapTimer := none })

/-! ## The end of a transmission (R193, R204) -/

/-- The transmitter after its frame has ended, before it chooses the next. -/
def idlePort (q : Port) : Port := { q with transmitter := .idle, sending := [] }

/-- The reply slot empties, and a request that waits in the buffer is taken at the same event (R189, R193). -/
def endReply (port : PortId) (s : State) : State :=
  let q := s.ports.get port
  let emptied := s.setPort port { idlePort q with reply := none }
  match q.buffer with
  | none => emptied
  | some w => takeRequest port w emptied

/-- A first part is followed by its second part, before any notice (R204). -/
def sendSecond (port : PortId) (s : State) : State :=
  let q := s.ports.get port
  match q.reply with
  | none => s.setPort port (idlePort q)
  | some r => s.setPort port { q with transmitter := .sendingReply .second, sending := replyFrame r .second }

/-- The last byte of the frame being sent has gone out (R193); an IDLE transmitter ends nothing (log 20). -/
def endTransmission (port : PortId) (s : State) : State :=
  match (s.ports.get port).transmitter with
  | .idle => s
  | .sendingNotice => s.setPort port (idlePort (s.ports.get port))
  | .sendingReply .first => sendSecond port s
  | .sendingReply _ => endReply port s

end Sys2Proof.Machine
end

