-- ==== Sys2Proof/Machine/Reset.lean ====
section
/-! DEFINITION. Reset and its release (R18, R44, R52, R60, R185, R186, R196). -/

namespace Sys2Proof.Machine

/-- The station count of a strap level in thousandths of the supply: the nearer level, and free exactly between them
(R52, log 11). -/
def stationCountOf (level : Nat) : StationCount :=
  if level < 500 then .single
  else if 500 < level then .tandem
  else if Config.stationStrapTieHigh then .tandem
  else .single

/-- The link rate of a strap level in thousandths of the supply, whose defined levels are ground, one third, two thirds
and the supply: the nearer level, and free exactly between them (R186, log 11). -/
def linkRateOf (level : Nat) : LinkRate :=
  if level ≤ 166 then .r115200
  else if level < 500 then .r230400
  else if level = 500 then (if Config.rateStrapTieUpper then .r460800 else .r230400)
  else if level ≤ 833 then .r460800
  else .r921600

/-- While reset is asserted the part holds its reset values and takes nothing; the straps, the encoder readings and the
commands that wait stay (R196, log 2). -/
def assertReset (s : State) : State :=
  { State.released s.straps (measuredPositions s.lift) with pending := s.pending, inReset := true }

/-- The release of reset: every item takes its value after reset, the straps are latched, the encoders are read, and then
the e-stop chain is sampled (R18, R60, R196). -/
def releaseReset (pins : ReleasePins) (s : State) : State :=
  let r : State :=
    { State.released ⟨stationCountOf pins.stationStrap, linkRateOf pins.rateStrap⟩ pins.encoders with
      pending := s.pending }
  if pins.chainOpen then assertEstop r else r

end Sys2Proof.Machine
end

