-- ==== Sys2Proof/Machine/Timers.lean ====
section
/-! DEFINITION. The idle step: one millisecond of the part's own timers (log 3). A timer that runs out, and a profile update
that is due, put their command into the queue. -/

namespace Sys2Proof.Machine

/-- A timer one millisecond on; a stopped timer stays stopped. -/
def countDown (t : Option Nat) : Option Nat := t.map Nat.pred

/-- A running timer that the millisecond brings to its end. -/
def runsOut (t : Option Nat) : Bool := t.any fun n => decide (n ≤ 1)

/-- A command that falls due. -/
def dueIf (c : Bool) (i : Instr) : List Instr := if c then [i] else []

/-- The commands that the millisecond brings, in a fixed order: the profile update, then the expiries (log 3). -/
def dueCommands (s : State) : List Instr :=
  dueIf (takesUpdates s.lift.state) .profileUpdate
    ++ dueIf (runsOut s.lift.settleTimer) .settleTimerExpiry
    ++ dueIf (runsOut s.scans.one.timer) (.scanTimerExpiry .one)
    ++ dueIf (runsOut s.scans.two.timer) (.scanTimerExpiry .two)
    ++ dueIf (runsOut s.cut.timers.one) (.stepTimerExpiry .one)
    ++ dueIf (runsOut s.cut.timers.two) (.stepTimerExpiry .two)
    ++ dueIf (runsOut s.ports.depot.gapTimer) (.byteGapTimerExpiry .depot)
    ++ dueIf (runsOut s.ports.lathe.gapTimer) (.byteGapTimerExpiry .lathe)
    ++ dueIf (runsOut s.ports.console.gapTimer) (.byteGapTimerExpiry .console)

def tickScan (x : Scan) : Scan := { x with timer := countDown x.timer }

def tickPort (q : Port) : Port := { q with gapTimer := countDown q.gapTimer }

/-- Every running timer counts one millisecond down. -/
def countTimers (s : State) : State :=
  { s with
    lift := { s.lift with settleTimer := countDown s.lift.settleTimer }
    scans := s.scans.map tickScan
    cut := { s.cut with timers := s.cut.timers.map countDown }
    ports := ⟨tickPort s.ports.depot, tickPort s.ports.lathe, tickPort s.ports.console⟩ }

/-- An idle step. Nothing runs while reset is asserted (R196). -/
def tick (s : State) : State :=
  if s.inReset then s else { countTimers s with pending := s.pending ++ dueCommands s }

end Sys2Proof.Machine
end

