-- ==== Sys2Proof/Machine/Requests.lean ====
section
/-! DEFINITION. The meanings of the request commands: a complete request frame of the kind arrives at a port (log 4). The
owner's rule stands in the block's own file (`serveX`), the link's part in Link.lean. -/

namespace Sys2Proof.Machine

open Host (Outcome)

/-! ## Record Store -/

/-- LOAD_AXLE (R25, R26). -/
def execLoadAxle (port : PortId) (tag : Byte) (image : AxleImage) (s : State) : Outcome State Fault Refusal :=
  arrive port tag (.loadAxle image) s

/-- READ_AXLE (R28). -/
def execReadAxle (port : PortId) (tag : Byte) (identity : List Byte) (s : State) : Outcome State Fault Refusal :=
  arrive port tag (.readAxle identity) s

/-- UNLOAD_AXLE (R29). -/
def execUnloadAxle (port : PortId) (tag : Byte) (identity : List Byte) (s : State) : Outcome State Fault Refusal :=
  arrive port tag (.unloadAxle identity) s

/-- LIST_AXLES (R30). -/
def execListAxles (port : PortId) (tag : Byte) (start : Nat) (s : State) : Outcome State Fault Refusal :=
  arrive port tag (.listAxles start) s

/-! ## Job Register -/

/-- SET_JOB (R47, R48). -/
def execSetJob (port : PortId) (tag : Byte) (fields : JobFields) (s : State) : Outcome State Fault Refusal :=
  arrive port tag (.setJob fields) s

/-- CLOSE_JOB (R55, R56). -/
def execCloseJob (port : PortId) (tag : Byte) (s : State) : Outcome State Fault Refusal := arrive port tag .closeJob s

/-! ## Template Table -/

/-- LOAD_TEMPLATE (R125, R126). -/
def execLoadTemplate (port : PortId) (tag : Byte) (index : Nat) (fields : TemplateFields) (s : State) :
    Outcome State Fault Refusal :=
  arrive port tag (.loadTemplate index fields) s

/-- READ_TEMPLATE (R134). -/
def execReadTemplate (port : PortId) (tag : Byte) (index : Nat) (s : State) : Outcome State Fault Refusal :=
  arrive port tag (.readTemplate index) s

/-- LOAD_DISPOSITION (R132). -/
def execLoadDisposition (port : PortId) (tag : Byte) (fields : DispositionFields) (s : State) :
    Outcome State Fault Refusal :=
  arrive port tag (.loadDisposition fields) s

/-- READ_DISPOSITION (R134). -/
def execReadDisposition (port : PortId) (tag : Byte) (s : State) : Outcome State Fault Refusal :=
  arrive port tag .readDisposition s

/-! ## Link Unit -/

/-- SET_CONFIG (R199). -/
def execSetConfig (port : PortId) (tag : Byte) (item index : Nat) (value : Int) (s : State) :
    Outcome State Fault Refusal :=
  arrive port tag (.setConfig item index value) s

/-- READ_CONFIG (R200). -/
def execReadConfig (port : PortId) (tag : Byte) (s : State) : Outcome State Fault Refusal :=
  arrive port tag .readConfig s

/-- READ_STATUS (R197). -/
def execReadStatus (port : PortId) (tag : Byte) (s : State) : Outcome State Fault Refusal :=
  arrive port tag .readStatus s

/-- A request whose message code names no request (R190, row 1). -/
def execUnknownMessageCode (port : PortId) (tag : Byte) (code : Byte) (s : State) : Outcome State Fault Refusal :=
  arrive port tag (.unknownCode code) s

/-! ## Pit Interlock -/

/-- CLAMP_REQUEST (R5). -/
def execClampRequest (port : PortId) (tag : Byte) (station : Nat) (s : State) : Outcome State Fault Refusal :=
  arrive port tag (.clampRequest station) s

/-- UNCLAMP_REPORT (R6). -/
def execUnclampReport (port : PortId) (tag : Byte) (station : Nat) (s : State) : Outcome State Fault Refusal :=
  arrive port tag (.unclampReport station) s

/-- ACK_FAULT (R16). -/
def execAckFault (port : PortId) (tag : Byte) (s : State) : Outcome State Fault Refusal := arrive port tag .ackFault s

/-! ## Lift Sequencer -/

/-- LIFT_MOVE (R65). -/
def execLiftMove (port : PortId) (tag : Byte) (target : Int) (moveClass : Nat) (s : State) :
    Outcome State Fault Refusal :=
  arrive port tag (.liftMove target moveClass) s

/-- LIFT_STOP(DECEL) (R79, R81). -/
def execLiftStopDecel (port : PortId) (tag : Byte) (s : State) : Outcome State Fault Refusal :=
  arrive port tag .liftStopDecel s

/-- LIFT_STOP(IMMEDIATE) (R80, R81). -/
def execLiftStopImmediate (port : PortId) (tag : Byte) (s : State) : Outcome State Fault Refusal :=
  arrive port tag .liftStopImmediate s

/-! ## Scan Unit and Measurement Unit -/

/-- START_MEASURE (R90, R91). -/
def execStartMeasure (port : PortId) (tag : Byte) (station : Nat) (s : State) : Outcome State Fault Refusal :=
  arrive port tag (.startMeasure station) s

/-- READ_MEASURE (R121). -/
def execReadMeasure (port : PortId) (tag : Byte) (position : Nat) (s : State) : Outcome State Fault Refusal :=
  arrive port tag (.readMeasure position) s

/-! ## Planner -/

/-- PLAN (R139, R140). -/
def execPlan (port : PortId) (tag : Byte) (s : State) : Outcome State Fault Refusal := arrive port tag .plan s

/-- READ_PLAN (R158). -/
def execReadPlan (port : PortId) (tag : Byte) (s : State) : Outcome State Fault Refusal := arrive port tag .readPlan s

/-! ## Cut Sequencer -/

/-- START_CUT (R164, R165). -/
def execStartCut (port : PortId) (tag : Byte) (s : State) : Outcome State Fault Refusal := arrive port tag .startCut s

/-- SUSPEND_CUT (R177). -/
def execSuspendCut (port : PortId) (tag : Byte) (s : State) : Outcome State Fault Refusal :=
  arrive port tag .suspendCut s

/-- RESUME_CUT (R178). -/
def execResumeCut (port : PortId) (tag : Byte) (s : State) : Outcome State Fault Refusal :=
  arrive port tag .resumeCut s

/-- ABANDON_CUT (R179, R180). -/
def execAbandonCut (port : PortId) (tag : Byte) (s : State) : Outcome State Fault Refusal :=
  arrive port tag .abandonCut s

/-- TAKE_PASS (R166, R167). -/
def execTakePass (port : PortId) (tag : Byte) (station : Nat) (s : State) : Outcome State Fault Refusal :=
  arrive port tag (.takePass station) s

/-- PASS_DONE (R169). -/
def execPassDone (port : PortId) (tag : Byte) (station step : Nat) (s : State) : Outcome State Fault Refusal :=
  arrive port tag (.passDone station step) s

/-- PASS_ABORTED (R175). -/
def execPassAborted (port : PortId) (tag : Byte) (station step : Nat) (s : State) : Outcome State Fault Refusal :=
  arrive port tag (.passAborted station step) s

/-- TOOL_CHANGED (R181). -/
def execToolChanged (port : PortId) (tag : Byte) (station side life : Nat) (s : State) :
    Outcome State Fault Refusal :=
  arrive port tag (.toolChanged station side life) s

end Sys2Proof.Machine
end

