-- ==== Sys2Proof/Machine/Events.lean ====
section
/-! DEFINITION. The meanings of the event commands: the pit's events, the part's timers, the links and reset. -/

namespace Sys2Proof.Machine

open Host (Outcome)

/-! ## The pit -/

/-- The assertion edge of the e-stop chain (R10). -/
def execEstopAssertion (s : State) : Outcome State Fault Refusal := takeEvent assertEstop s

/-- The release edge of the e-stop chain (R10). -/
def execEstopRelease (s : State) : Outcome State Fault Refusal := takeEvent releaseEstop s

/-- A jack sample (R61). -/
def execJackSample (readings : Jacks Int) (s : State) : Outcome State Fault Refusal :=
  takeEvent (takeSample readings) s

/-- A profile update (R70). -/
def execProfileUpdate (s : State) : Outcome State Fault Refusal := takeEvent profileTick s

/-- The expiry of the settle timer (R78). -/
def execSettleTimerExpiry (s : State) : Outcome State Fault Refusal := takeEvent expireSettle s

/-- A gauge point (R93). -/
def execGaugePoint (channel : Channel) (y z : Int) (s : State) : Outcome State Fault Refusal :=
  takeEvent (gaugePointTaken channel y z) s

/-- An end marker (R96). -/
def execEndMarker (channel : Channel) (s : State) : Outcome State Fault Refusal :=
  takeEvent (endMarkerTaken channel) s

/-- A wheel-index edge (R97). -/
def execWheelIndexEdge (station : Station) (s : State) : Outcome State Fault Refusal :=
  takeEvent (indexEdgeTaken station) s

/-- A count of a roller encoder (R89). -/
def execRollerCount (channel : Channel) (s : State) : Outcome State Fault Refusal :=
  takeEvent (rollerCountTaken channel) s

/-- The expiry of a scan timer (R99). -/
def execScanTimerExpiry (station : Station) (s : State) : Outcome State Fault Refusal :=
  takeEvent (expireScan station) s

/-- The expiry of a step timer (R174). -/
def execStepTimerExpiry (station : Station) (s : State) : Outcome State Fault Refusal :=
  takeEvent (expireStep station) s

/-! ## The links -/

/-- A frame arrives on a port's link (R187). -/
def execFrameReceived (port : PortId) (bytes : List Byte) (s : State) : Outcome State Fault Refusal :=
  takeEvent (receiveBytes port bytes) s

/-- A character arrives on a port's link (R187). -/
def execCharacterReceived (port : PortId) (byte : Byte) (stopBit : Bool) (s : State) : Outcome State Fault Refusal :=
  takeEvent (receiveCharacter port byte stopBit) s

/-- The expiry of a byte-gap timer (R187, R204). -/
def execByteGapTimerExpiry (port : PortId) (s : State) : Outcome State Fault Refusal :=
  takeEvent (expireByteGap port) s

/-- The end of a frame's transmission (R193). -/
def execTransmitEnd (port : PortId) (s : State) : Outcome State Fault Refusal := takeEvent (endTransmission port) s

/-! ## Reset -/

/-- RESET_N is asserted (R196). -/
def execReset (s : State) : Outcome State Fault Refusal := .next (assertReset s)

/-- RESET_N is released (R18, R60, R185, R196). -/
def execResetRelease (pins : ReleasePins) (s : State) : Outcome State Fault Refusal :=
  .next (startTransmitters (releaseReset pins s))

end Sys2Proof.Machine
end

