-- ==== Sys2Proof/Machine/Dispatch.lean ====
section
/-! DEFINITION. The command's meaning: one arm per constructor. -/

namespace Sys2Proof.Machine

def exec (i : Instr) (s : State) : Host.Outcome State Fault Refusal :=
  match i with
  | .loadAxle port tag image => Sys2Proof.Machine.execLoadAxle port tag image s
  | .readAxle port tag identity => Sys2Proof.Machine.execReadAxle port tag identity s
  | .unloadAxle port tag identity => Sys2Proof.Machine.execUnloadAxle port tag identity s
  | .listAxles port tag start => Sys2Proof.Machine.execListAxles port tag start s
  | .setJob port tag fields => Sys2Proof.Machine.execSetJob port tag fields s
  | .closeJob port tag => Sys2Proof.Machine.execCloseJob port tag s
  | .loadTemplate port tag index fields => Sys2Proof.Machine.execLoadTemplate port tag index fields s
  | .readTemplate port tag index => Sys2Proof.Machine.execReadTemplate port tag index s
  | .loadDisposition port tag fields => Sys2Proof.Machine.execLoadDisposition port tag fields s
  | .readDisposition port tag => Sys2Proof.Machine.execReadDisposition port tag s
  | .setConfig port tag item index value => Sys2Proof.Machine.execSetConfig port tag item index value s
  | .readConfig port tag => Sys2Proof.Machine.execReadConfig port tag s
  | .readStatus port tag => Sys2Proof.Machine.execReadStatus port tag s
  | .unknownMessageCode port tag code => Sys2Proof.Machine.execUnknownMessageCode port tag code s
  | .clampRequest port tag station => Sys2Proof.Machine.execClampRequest port tag station s
  | .unclampReport port tag station => Sys2Proof.Machine.execUnclampReport port tag station s
  | .ackFault port tag => Sys2Proof.Machine.execAckFault port tag s
  | .liftMove port tag target moveClass => Sys2Proof.Machine.execLiftMove port tag target moveClass s
  | .liftStopDecel port tag => Sys2Proof.Machine.execLiftStopDecel port tag s
  | .liftStopImmediate port tag => Sys2Proof.Machine.execLiftStopImmediate port tag s
  | .startMeasure port tag station => Sys2Proof.Machine.execStartMeasure port tag station s
  | .readMeasure port tag position => Sys2Proof.Machine.execReadMeasure port tag position s
  | .plan port tag => Sys2Proof.Machine.execPlan port tag s
  | .readPlan port tag => Sys2Proof.Machine.execReadPlan port tag s
  | .startCut port tag => Sys2Proof.Machine.execStartCut port tag s
  | .suspendCut port tag => Sys2Proof.Machine.execSuspendCut port tag s
  | .resumeCut port tag => Sys2Proof.Machine.execResumeCut port tag s
  | .abandonCut port tag => Sys2Proof.Machine.execAbandonCut port tag s
  | .takePass port tag station => Sys2Proof.Machine.execTakePass port tag station s
  | .passDone port tag station step => Sys2Proof.Machine.execPassDone port tag station step s
  | .passAborted port tag station step => Sys2Proof.Machine.execPassAborted port tag station step s
  | .toolChanged port tag station side life => Sys2Proof.Machine.execToolChanged port tag station side life s
  | .estopAssertion => Sys2Proof.Machine.execEstopAssertion s
  | .estopRelease => Sys2Proof.Machine.execEstopRelease s
  | .jackSample readings => Sys2Proof.Machine.execJackSample readings s
  | .profileUpdate => Sys2Proof.Machine.execProfileUpdate s
  | .settleTimerExpiry => Sys2Proof.Machine.execSettleTimerExpiry s
  | .gaugePoint channel y z => Sys2Proof.Machine.execGaugePoint channel y z s
  | .endMarker channel => Sys2Proof.Machine.execEndMarker channel s
  | .wheelIndexEdge station => Sys2Proof.Machine.execWheelIndexEdge station s
  | .rollerCount channel => Sys2Proof.Machine.execRollerCount channel s
  | .scanTimerExpiry station => Sys2Proof.Machine.execScanTimerExpiry station s
  | .stepTimerExpiry station => Sys2Proof.Machine.execStepTimerExpiry station s
  | .frameReceived port bytes => Sys2Proof.Machine.execFrameReceived port bytes s
  | .byteGapTimerExpiry port => Sys2Proof.Machine.execByteGapTimerExpiry port s
  | .transmitEnd port => Sys2Proof.Machine.execTransmitEnd port s
  | .reset => Sys2Proof.Machine.execReset s
  | .resetRelease pins => Sys2Proof.Machine.execResetRelease pins s
  | .characterReceived port byte stopBit => Sys2Proof.Machine.execCharacterReceived port byte stopBit s

end Sys2Proof.Machine
end

