-- ==== Sys2Proof/Safety.lean ====
section
/-! DEFINITION. The words the statements are made of: how a command ends (its reply, its notices in order, the transmitters'
choice), which commands are requests, what a request frame does and what a request's payload holds, and the properties that every
step keeps. -/

namespace Sys2Proof.Machine

/-! ## How a command ends -/

/-- Posts notices in order. -/
def postAll (notices : List NoticeBody) (s : State) : State := notices.foldl (fun x n => post n x) s

/-- The end of an event: its notices are posted in order, and the idle transmitters choose (R193, R194). -/
def happened (notices : List NoticeBody) (s : State) : State := startTransmitters (postAll notices s)

/-- The end of a request: its notices are posted in order, its reply stands in the reply slot of its port with the restart
mark of the port, its buffer is empty, and the idle transmitters choose (R190, R192, R193). -/
def carriedOut (port : PortId) (tag code : Byte) (a : Answer) (notices : List NoticeBody) (s : State) : State :=
  let told := postAll notices s
  startTransmitters
    (told.setPort port
      { told.ports.get port with buffer := none, reply := some ⟨code, tag, (s.ports.get port).restart, a⟩ })

/-- A port takes a request at once: reset is released, and its receive buffer and reply slot are empty (R189, R196). -/
def PortReady (port : PortId) (s : State) : Prop :=
  s.inReset = false ∧ (s.ports.get port).buffer = none ∧ (s.ports.get port).reply = none

/-- The answer OK with its contents. -/
def okWith (contents : List Byte) : Answer := ⟨.ok, contents⟩

/-- An answer that carries its result code alone. -/
def plainly (r : Result) : Answer := ⟨r, []⟩

/-! ## The parts of an event, as the statements name them -/

/-- A list that stands where a condition holds. -/
def onlyIf {α : Type} (c : Bool) (l : List α) : List α := if c then l else []

/-- PHASE, where the new phase differs from the one held (R2). -/
def phaseNotice (s : State) (p : Phase) : List NoticeBody :=
  onlyIf (p != s.interlock.phase) [.phase s.interlock.phase p]

/-- The Pit Interlock with a phase held and both permits as R8 gives them for that phase and those clamps. -/
def heldPhase (s : State) (p : Phase) (clamped : PerStation Bool) : Interlock :=
  let up := p == .clamped || p == .cutting
  { s.interlock with
    phase := p, clamped := clamped
    permits := ⟨up && clamped.one, up && (stationExists s .two && clamped.two)⟩ }

/-- The context of a station whose step in flight, if there is one, is lost (R173). -/
def lostContext (s : State) (st : Station) : CutContext :=
  if (stepInFlight s st).isSome then { s.cut.contexts.get st with inFlight := none } else s.cut.contexts.get st

/-- The step timer of a station whose step in flight, if there is one, is lost (R173). -/
def lostTimer (s : State) (st : Station) : Option Nat :=
  if (stepInFlight s st).isSome then none else s.cut.timers.get st

/-- The scan of a station after an early end, if it was in flight (R99, R100). -/
def endedScan (s : State) (st : Station) : Scan :=
  if scanInFlight s st then { s.scans.get st with state := .idle, timer := none } else s.scans.get st

/-- What a scan that ended early leaves in a wheel: the counts of its side, and no figure (R107). -/
def countsAlone (x : ScanSide) : Wheel :=
  { Wheel.reset with pointsKept := x.points.length, disorder := x.disorder, truncated := x.truncated }

/-- The measurement of a position after an early end of its scan, if it was in flight: INVALID with the end cause and the reason
of that name; the verification items and the tolerance copies stay (R106, R107). -/
def earlyMeasurement (s : State) (st : Station) (cause : EndCause) (reason : Reason) : Measurement :=
  if scanInFlight s st then
    { s.measurements.get st with
      state := .invalid, endCause := some cause, reason := some reason, reasonWheel := none, verifyOutcome := .none
      wheels := ⟨countsAlone (s.scans.get st).sides.l, countsAlone (s.scans.get st).sides.r⟩ }
  else s.measurements.get st

/-- R11, step by step, on a pit that was not HALTED. -/
def haltEffect (cause : HaltCause) (s : State) : State :=
  let suspends := anyStepInFlight s && s.cut.state == .running
  { s with
    interlock := { s.interlock with phase := .halted, causes := .only cause, permits := ⟨false, false⟩ }
    cut := { s.cut with
      state := if suspends then .suspended else s.cut.state
      cause := if suspends then some .halt else s.cut.cause
      contexts := ⟨lostContext s .one, lostContext s .two⟩
      timers := ⟨lostTimer s .one, lostTimer s .two⟩ }
    scans := ⟨endedScan s .one, endedScan s .two⟩
    measurements := ⟨earlyMeasurement s .one .halt .halt, earlyMeasurement s .two .halt .halt⟩ }

/-- The notices of a halt in the order of R15. -/
def haltNotices (cause : HaltCause) (s : State) : List NoticeBody :=
  let t := haltEffect cause s
  [.halted cause (.only cause)] ++ phaseNotice s .halted
    ++ onlyIf (scanInFlight s .one) [.scanDone .one t.measurements.one]
    ++ onlyIf (scanInFlight s .two) [.scanDone .two t.measurements.two]
    ++ onlyIf (anyStepInFlight s)
        [.cutState (jobNumber s) s.cut.state t.cut.state t.cut.cause
          ⟨abortReport s .one .halt, abortReport s .two .halt⟩ (t.cut.contexts.map CutContext.next)]

/-- The LIFT_DONE of the working move and of a dropped staged move, in the order of R85. -/
def liftEndNotices (l : Lift) (outcome : LiftOutcome) (cause : Option HaltCause) : List NoticeBody :=
  (l.working.toList.map fun m => .liftDone outcome m cause (commands l) (measuredPositions l))
    ++ (l.staged.toList.map fun m => .liftDone .stagedDropped m none (commands l) (measuredPositions l))

/-- The lift after a stop at once (R80). -/
def stoppedLift (l : Lift) : Lift :=
  { l with
    state := .idle, working := none, staged := none, stopping := false, speed := 0, remainder := 0
    settleTimer := none, brakesApplied := true, drivesEnabled := false
    axes := jacksMap (fun a => { a with target := none }) l.axes }

/-- The lift after a lift fault: its commands and targets stay (R82). -/
def faultedLift (l : Lift) : Lift :=
  { l with
    state := .fault, working := none, staged := none, stopping := false, speed := 0, remainder := 0
    settleTimer := none, brakesApplied := true, drivesEnabled := false }

/-- The LIFT_FAULT of a fault with its cause and the jacks it names (R85). -/
def faultNotice (s : State) (cause : HaltCause) (named : Jacks Bool) : NoticeBody :=
  .liftFault cause named s.lift.state (spreadOf s.lift (faultTrims s)) (commands s.lift) (measuredPositions s.lift)
    (followingErrors s.lift)

/-- The state after a lift fault: the lift in FAULT, and the pit halted, or the cause added to a HALTED pit (R12, R82). -/
def faultEffect (cause : HaltCause) (s : State) : State :=
  let x := { s with lift := faultedLift s.lift }
  if s.interlock.phase == .halted then
    { x with interlock := { x.interlock with causes := x.interlock.causes.add cause } }
  else haltEffect cause x

/-- The notices of a lift fault: the lift's, then the Pit Interlock's (R82, R15). -/
def faultNotices (cause : HaltCause) (named : Jacks Bool) (s : State) : List NoticeBody :=
  liftEndNotices s.lift .faulted (some cause) ++ [faultNotice s cause named]
    ++ onlyIf (s.interlock.phase != .halted) (haltNotices cause { s with lift := faultedLift s.lift })

/-- The slots with every lock released (R129). -/
def unlocked (slots : Vector Slot 8) : Vector Slot 8 := slots.map fun x => { x with locked := false }

/-- The Cut Sequencer with its plan discarded: NONE, no cause, empty contexts, stopped timers; the tools stay. -/
def emptiedCut (c : CutSequencer) : CutSequencer :=
  { c with state := .none, cause := none, contexts := ⟨.empty, .empty⟩, timers := ⟨none, none⟩ }

/-- The next steps that a CUT_STATE carries. -/
def nextSteps (c : CutSequencer) : PerStation (Option Nat) := c.contexts.map CutContext.next

/-! ## Changes of bound records -/

/-- The store after a change of the record bound to a position, if it has one. -/
def changedStore (s : State) (st : Station) (f : AxleRecord → AxleRecord) (store : List AxleRecord) : List AxleRecord :=
  match jobPosition s st with
  | some p => store.map fun r => if r.identity = p.identity then f r else r
  | none => store

/-- The RECORD_CHANGED of a change of the record bound to a position, if it has one (R35). -/
def changeNotice (s : State) (st : Station) (f : AxleRecord → AxleRecord)
    (changes : AxleRecord → AxleRecord → ChangeSet) : List NoticeBody :=
  match boundRecord s st with
  | some r => [.recordChanged r.identity (changes r (f r))]
  | none => []

/-- R38, R48: while a job is open, the record of each of its positions is in the store and bound to that position, and
the two records are different ones. -/
def JobStands (s : State) : Prop :=
  ∀ j, s.job = some j →
    (∃ r, findRecord j.position1.identity s.store = some r ∧ r.binding = .position1)
      ∧ ∀ p, j.position2 = some p →
          p.identity ≠ j.position1.identity
            ∧ ∃ r, findRecord p.identity s.store = some r ∧ r.binding = .position2

/-- R45, R46: the settings of the open job lie in their ranges. -/
def JobRanged (s : State) : Prop :=
  ∀ j, s.job = some j →
    (1 ≤ j.number ∧ j.number ≤ 65535) ∧ j.odometer ≤ 9999999 ∧ j.defaultTemplate ≤ 7 ∧ j.upperIndex ≤ 7
      ∧ (-3 ≤ j.bias ∧ j.bias ≤ 3) ∧ (200000 ≤ j.supportHeight ∧ j.supportHeight ≤ 1400000)

/-- R9: the phase is CLAMPED or CUTTING and the station is CLAMPED. -/
def WorkAdmitted (s : State) (st : Station) : Prop :=
  (s.interlock.phase = .clamped ∨ s.interlock.phase = .cutting) ∧ stationClamped s st = true

/-! ## The request that a command brings -/

/-- The port and the request of a request command; none for an event. -/
def requestOf : Instr → Option (PortId × Waiting)
  | .loadAxle p t image => some (p, ⟨t, .loadAxle image⟩)
  | .readAxle p t identity => some (p, ⟨t, .readAxle identity⟩)
  | .unloadAxle p t identity => some (p, ⟨t, .unloadAxle identity⟩)
  | .listAxles p t start => some (p, ⟨t, .listAxles start⟩)
  | .setJob p t fields => some (p, ⟨t, .setJob fields⟩)
  | .closeJob p t => some (p, ⟨t, .closeJob⟩)
  | .loadTemplate p t index fields => some (p, ⟨t, .loadTemplate index fields⟩)
  | .readTemplate p t index => some (p, ⟨t, .readTemplate index⟩)
  | .loadDisposition p t fields => some (p, ⟨t, .loadDisposition fields⟩)
  | .readDisposition p t => some (p, ⟨t, .readDisposition⟩)
  | .setConfig p t item index value => some (p, ⟨t, .setConfig item index value⟩)
  | .readConfig p t => some (p, ⟨t, .readConfig⟩)
  | .readStatus p t => some (p, ⟨t, .readStatus⟩)
  | .unknownMessageCode p t code => some (p, ⟨t, .unknownCode code⟩)
  | .clampRequest p t station => some (p, ⟨t, .clampRequest station⟩)
  | .unclampReport p t station => some (p, ⟨t, .unclampReport station⟩)
  | .ackFault p t => some (p, ⟨t, .ackFault⟩)
  | .liftMove p t target moveClass => some (p, ⟨t, .liftMove target moveClass⟩)
  | .liftStopDecel p t => some (p, ⟨t, .liftStopDecel⟩)
  | .liftStopImmediate p t => some (p, ⟨t, .liftStopImmediate⟩)
  | .startMeasure p t station => some (p, ⟨t, .startMeasure station⟩)
  | .readMeasure p t position => some (p, ⟨t, .readMeasure position⟩)
  | .plan p t => some (p, ⟨t, .plan⟩)
  | .readPlan p t => some (p, ⟨t, .readPlan⟩)
  | .startCut p t => some (p, ⟨t, .startCut⟩)
  | .suspendCut p t => some (p, ⟨t, .suspendCut⟩)
  | .resumeCut p t => some (p, ⟨t, .resumeCut⟩)
  | .abandonCut p t => some (p, ⟨t, .abandonCut⟩)
  | .takePass p t station => some (p, ⟨t, .takePass station⟩)
  | .passDone p t station step => some (p, ⟨t, .passDone station step⟩)
  | .passAborted p t station step => some (p, ⟨t, .passAborted station step⟩)
  | .toolChanged p t station side life => some (p, ⟨t, .toolChanged station side life⟩)
  | _ => none

/-! ## The frames and the payloads of requests -/

/-- What a REQUEST frame with a good CRC does at its port, once the receiver hunts again (R189, R204): a first part of 240 bytes
is held and the byte-gap timer runs, a first part of another length is dropped with FRAMING; a frame that continues the held
part brings the joined request; any other frame drops the held part with FRAMING and brings its own request (log 32). -/
def requestFrameTaken (port : PortId) (frameType code tag : Byte) (payload : List Byte) (s : State) : State :=
  let q := s.ports.get port
  let free : Port := { q with held := none, framing := q.framing || q.held.isSome }
  let whole := offerRequest port ⟨tag, readRequest code payload⟩ (s.setPort port free)
  if frameType.getLsbD 6 then
    if payload.length = 240 then
      s.setPort port { free with held := some ⟨code, tag, payload⟩, gapTimer := some 3 }
    else s.setPort port { free with framing := true }
  else
    match q.held with
    | none => whole
    | some h =>
      if h.code = code ∧ h.tag = tag then
        offerRequest port ⟨tag, readRequest code (h.payload ++ payload)⟩ (s.setPort port { q with held := none })
      else whole

/-- A record image before its events, with an event count (12.4). -/
def imageHead (i : AxleImage) (count : Nat) : List Byte :=
  oneByte i.identity.length ++ i.identity
    ++ oneByte (boolBit i.truncated 1 + boolBit i.wearAlert 2 + boolBit i.remeasure 4 + boolBit i.condemned 8
        + boolBit i.wear.isSome 16)
    ++ lengthBytes i.newDia ++ lengthBytes i.condemnDia ++ lengthBytes i.turnedA ++ lengthBytes i.turnedB
    ++ oneByte i.budget ++ unsignedBytes 2 ((i.wear.getD 0 : Nat) : Int) ++ oneByte count

/-- The record image of a LOAD_AXLE (12.4). -/
def imagePayload (i : AxleImage) : List Byte := imageHead i i.history.length ++ i.history.flatMap eventBytes

/-- The payload that 12.2 lays out for a request. An unknown code has none of its own, and a bad payload none at all. -/
def payloadOf : Request → List Byte
  | .loadAxle image => imagePayload image
  | .readAxle identity => oneByte identity.length ++ identity
  | .unloadAxle identity => oneByte identity.length ++ identity
  | .listAxles start => oneByte start
  | .setJob f => unsignedBytes 2 f.jobNumber ++ lengthBytes f.odometer ++ oneByte f.mode ++ oneByte f.defaultTemplate
      ++ oneByte f.upperIndex ++ signedBytes 1 f.bias ++ lengthBytes f.supportHeight
      ++ oneByte f.orientation1 ++ oneByte f.identity1.length ++ f.identity1
      ++ oneByte f.orientation2 ++ oneByte f.identity2.length ++ f.identity2
  | .loadTemplate index t => oneByte index ++ t.name ++ lengthBytes t.ftNom ++ oneByte t.count
      ++ t.points.flatMap fun p => lengthBytes p.y ++ signedBytes 4 p.t
  | .readTemplate index => oneByte index
  | .loadDisposition d => lengthBytes d.lower ++ unsignedBytes 2 d.width ++ oneByte d.count ++ d.codes.flatMap oneByte
  | .setConfig item index value => oneByte item ++ oneByte index ++ signedBytes 4 value
  | .clampRequest station => oneByte station
  | .unclampReport station => oneByte station
  | .liftMove target moveClass => lengthBytes target ++ oneByte moveClass
  | .liftStopDecel => oneByte 0
  | .liftStopImmediate => oneByte 1
  | .startMeasure station => oneByte station
  | .readMeasure position => oneByte position
  | .takePass station => oneByte station
  | .passDone station step => oneByte station ++ oneByte step
  | .passAborted station step => oneByte station ++ oneByte step
  | .toolChanged station side life => oneByte station ++ oneByte side ++ oneByte life
  | _ => []

/-! ## Properties that every step keeps -/

/-- R13: the phase is HALTED exactly while the cause set is not empty. -/
def HaltedByCauses (s : State) : Prop := s.interlock.phase = .halted ↔ s.interlock.causes.nonempty = true

/-- R8: each cut permit is asserted exactly while the phase is CLAMPED or CUTTING and its station is clamped. -/
def PermitsFollow (s : State) : Prop :=
  ∀ st, s.interlock.permits.get st = true ↔
    ((s.interlock.phase = .clamped ∨ s.interlock.phase = .cutting) ∧ stationClamped s st = true)

/-- R195: no notice queue holds more than 8 notices. -/
def QueuesBounded (s : State) : Prop := ∀ id, (s.ports.get id).queue.length ≤ 8

/-- R20, R21, R32: at most 48 records in strictly ascending order of identity, each with at most 12 events and a budget of
at most 15. -/
def StoreOrdered (s : State) : Prop :=
  s.store.length ≤ 48
    ∧ s.store.Pairwise (fun a b => identityLt a.identity b.identity = true)
    ∧ ∀ r ∈ s.store, r.history.length ≤ 12 ∧ r.budget ≤ 15

/-- R127: every LOADED slot holds a template whose taping point lies at the configured y_tap. -/
def TapingPointsStand (s : State) : Prop :=
  ∀ x ∈ s.slots.toList, ∀ t, x.template = some t → ∃ p ∈ t.points, p.y = s.config.yTap ∧ p.t = 0

/-- R161, R136: a suspend cause stands exactly in SUSPENDED, and a plan exactly outside NONE. -/
def CutConsistent (s : State) : Prop :=
  (s.cut.cause.isSome = true ↔ s.cut.state = .suspended) ∧ (s.plan = none ↔ s.cut.state = .none)

/-- R167: a station has a step in flight only while it is clamped, has no scan in flight, and the cut is RUNNING or
SUSPENDED. The step is the station's next, of an included axle that is not done (R162). -/
def StepsGuarded (s : State) : Prop :=
  ∀ st k, (s.cut.contexts.get st).inFlight = some k →
    stationClamped s st = true ∧ (s.scans.get st).state = .idle
      ∧ (s.cut.state = .running ∨ s.cut.state = .suspended)
      ∧ (s.cut.contexts.get st).next = some k ∧ (s.cut.contexts.get st).axleDone = false
      ∧ planIncludes s st = true

/-- R162, R165: a station has a next step only from START_CUT on, for an included axle that is not done. -/
def NextStepsStand (s : State) : Prop :=
  ∀ st k, (s.cut.contexts.get st).next = some k →
    s.cut.state ≠ .none ∧ s.cut.state ≠ .planned ∧ (s.cut.contexts.get st).axleDone = false ∧ planIncludes s st = true

/-- R1, R2: the phase held is the one that the derivation gives. -/
def PhaseDerived (s : State) : Prop := derivedPhase s = some s.interlock.phase

/-- An item lies in its range. -/
def within (lo hi v : Int) : Prop := lo ≤ v ∧ v ≤ hi

/-- R198: every configuration item lies in its range, and FL is at most FH. -/
def ConfigInRange (s : State) : Prop :=
  ∀ item index, itemNamed item index = true →
    within (itemRange s.config item).1 (itemRange s.config item).2 (storedAt s.config item index)
where
  /-- The stored value of an item. -/
  storedAt (c : Configuration) (item index : Nat) : Int :=
    match item with
    | 9 => (jacksList c.trims).getD (index - 1) 0
    | 10 => (channelValues c.refRadius).getD (index - 1) 0
    | 11 => (channelValues c.rollerDia).getD (index - 1) 0
    | 12 => (channelValues c.rollerCounts).getD (index - 1) 0
    | k => if k < 9 then (configValues c).getD (k - 1) 0 else (configValues c).getD (k + 11) 0

/-- R88, R94, R97: the lists of a side keep their bounds, its points ascend strictly in y, and both capture lists of a
station hold equally many captures. -/
def ScansBounded (s : State) : Prop :=
  ∀ st,
    (∀ sd, ((s.scans.get st).sides.get sd).points.length ≤ 512
      ∧ ((s.scans.get st).sides.get sd).points.Pairwise (fun a b => a.y < b.y)
      ∧ ((s.scans.get st).sides.get sd).disorder ≤ 65535
      ∧ ((s.scans.get st).sides.get sd).captures.length ≤ 5)
    ∧ (s.scans.get st).sides.l.captures.length = (s.scans.get st).sides.r.captures.length

end Sys2Proof.Machine
end

