-- ==== Sys2Proof/Certificates/Slice0/Obligations.lean ====
section
/-! DEFINITION. The statements for the provers. A statement about a command says the whole next state: `carriedOut` and
`happened` (Safety.lean) give its reply, its notices in order and the ports, and the state they are applied to names every
field that changes, so every field it does not name is unchanged. -/

section Statements

open Sys2Proof Sys2Proof.Machine

/-! ## The machine -/

/-- A step takes the command at the front of the queue. -/
def Obligations.StepRunsTheFrontCommand : Prop :=
  ∀ (c : Instr) (rest : List Instr) (s : State), step { s with pending := c :: rest } = exec c { s with pending := rest }

/-- A step on an empty queue is one millisecond of the part's timers (the model's choice, log 3): every running timer counts
one down; the queue then holds a profile update where the lift takes updates (R64) and the expiry of each timer that was at
its last millisecond, each once, in the order of log 3, and nothing else; nothing else changes. -/
def Obligations.IdleStepIsOneMillisecond : Prop :=
  ∀ s : State, s.pending = [] →
    (s.inReset = true → step s = .next s)
    ∧ (s.inReset = false →
      let left := fun (timer : Option Nat) => timer.map fun n => n - 1
      let due := fun (timer : Option Nat) (expiry : Instr) => onlyIf (timer.any fun n => decide (n ≤ 1)) [expiry]
      let counted := fun (q : Port) => { q with gapTimer := left q.gapTimer }
      step s = .next
        { s with
          pending :=
            onlyIf (decide (s.lift.state ∈ [.accel, .run, .decel, .creep])) [.profileUpdate]
              ++ due s.lift.settleTimer .settleTimerExpiry
              ++ due s.scans.one.timer (.scanTimerExpiry .one) ++ due s.scans.two.timer (.scanTimerExpiry .two)
              ++ due s.cut.timers.one (.stepTimerExpiry .one) ++ due s.cut.timers.two (.stepTimerExpiry .two)
              ++ due s.ports.depot.gapTimer (.byteGapTimerExpiry .depot)
              ++ due s.ports.lathe.gapTimer (.byteGapTimerExpiry .lathe)
              ++ due s.ports.console.gapTimer (.byteGapTimerExpiry .console)
          lift := { s.lift with settleTimer := left s.lift.settleTimer }
          scans :=
            ⟨{ s.scans.one with timer := left s.scans.one.timer }, { s.scans.two with timer := left s.scans.two.timer }⟩
          cut := { s.cut with timers := ⟨left s.cut.timers.one, left s.cut.timers.two⟩ }
          ports := ⟨counted s.ports.depot, counted s.ports.lathe, counted s.ports.console⟩ })

/-- Every command, and every step, answers a next state: the machine never stops. -/
def Obligations.EveryCommandGoesOn : Prop :=
  (∀ (c : Instr) (s : State), ∃ t, exec c s = .next t) ∧ ∀ s : State, ∃ t, step s = .next t

/-! ## Reset -/

/-- What reset leaves, block by block, every item of a measurement record (R105) and of a cut context (R162) among it (the straps
and the encoder readings are State.reset's own choice, log 1). -/
def Obligations.ResetState : Prop :=
  let s := State.reset
  let wheel : Wheel := ⟨.none, 0, 0, false, none, none, none, none, none, none, none⟩
  let measurement : Measurement := ⟨.none, none, none, none, none, none, false, none, .none, ⟨wheel, wheel⟩⟩
  let context : CutContext := ⟨none, none, 0, false, false, none, none⟩
  Wheel.reset = wheel ∧ Measurement.reset = measurement ∧ CutContext.empty = context
  ∧ s.pending = [] ∧ s.inReset = false
  ∧ s.interlock = ⟨.idle, ⟨false, false⟩, false, ⟨false, false, false, false, false⟩, ⟨false, false⟩⟩
  ∧ s.store = [] ∧ s.job = none ∧ s.plan = none
  ∧ s.lift.state = .idle ∧ s.lift.working = none ∧ s.lift.staged = none ∧ s.lift.stopping = false
  ∧ s.lift.speed = 0 ∧ s.lift.remainder = 0 ∧ s.lift.settleTimer = none ∧ s.lift.brakesApplied = true
  ∧ s.lift.drivesEnabled = false
  ∧ (∀ a ∈ jacksList s.lift.axes,
      a.command = a.measured ∧ a.accumulator = 1000 * a.measured ∧ a.followingError = 0 ∧ a.target = none
        ∧ a.direction = .up)
  ∧ (∀ st, s.scans.get st = ⟨.idle, ⟨⟨[], 0, false, false, []⟩, ⟨[], 0, false, false, []⟩⟩, none, none⟩
      ∧ s.rollers.get st = ⟨0, 0⟩ ∧ s.measurements.get st = measurement
      ∧ s.cut.contexts.get st = context ∧ s.cut.timers.get st = none
      ∧ s.cut.tools.get st = ⟨0, 0⟩)
  ∧ s.slots.toList = List.replicate 8 ⟨none, false⟩
  ∧ s.disposition = ⟨none, none, []⟩ ∧ s.cut.state = .none ∧ s.cut.cause = none
  ∧ configValues s.config
      = [500, 10000, 2000, 0, 3000, 1000, 200, 2000, 0, 0, 0, 0, 460000, 460000, 460000, 460000, 100000, 100000, 100000,
         100000, 4096, 4096, 4096, 4096, 70000, 10000, 2000, 30000, 150, 100, 300, 500, 4000, 2000, 28000, 900, 0]
  ∧ ∀ id, s.ports.get id
      = ⟨.hunting, [], none, none, none, .idle, [], [], false, false, false, true, 0, none⟩

/-- While reset is asserted no received character is taken (R196, for the links). That no other command but RESET and
RESET_RELEASE changes anything either, and what RESET itself leaves, is the model's choice (log 2), and that the edges of the
e-stop chain are not taken is log 24 (DEDUCED). The release of reset latches the straps (R52, R186), reads the encoders (R60) and gives every item its value
after reset; a chain found open halts the pit with cause ESTOP (R18). -/
def Obligations.ResetPins : Prop :=
  ((∀ s : State, exec .reset s
      = .next { State.released s.straps (measuredPositions s.lift) with pending := s.pending, inReset := true })
  ∧ ∀ (c : Instr) (s : State), s.inReset = true → c ≠ .reset → (∀ pins, c ≠ .resetRelease pins) → exec c s = .next s)
  ∧ (∀ (pins : ReleasePins) (s : State),
    let fresh : State :=
      { State.released ⟨stationCountOf pins.stationStrap, linkRateOf pins.rateStrap⟩ pins.encoders with
        pending := s.pending }
    exec (.resetRelease pins) s = .next
      (if pins.chainOpen then
        happened [.halted .estop (.only .estop), .phase .idle .halted]
          { fresh with interlock := ⟨.halted, ⟨false, false⟩, true, .only .estop, ⟨false, false⟩⟩ }
      else fresh))
  ∧ (∀ level, (level < 500 → stationCountOf level = .single) ∧ (500 < level → stationCountOf level = .tandem))
  ∧ ∀ level,
      (level ≤ 166 → linkRateOf level = .r115200)
      ∧ (167 ≤ level → level < 500 → linkRateOf level = .r230400)
      ∧ (500 < level → level ≤ 833 → linkRateOf level = .r460800)
      ∧ (834 ≤ level → linkRateOf level = .r921600)

/-! ## The Link Unit -/

/-- What becomes of a request before its owner sees it. A request command is a request offered to its port (log 4). At a port
whose buffer is full a request is lost and OVERRUN is set, at a port whose reply slot is full it waits in the buffer (R189).
At a ready port a code that names no request is answered FORM, a request that the role of the port does not allow ROLE, and a
payload that does not fit the code FORM, all with nothing changed but the port that answers (R190, rows 1 to 3, and its table
of roles). -/
def Obligations.RequestAdmission : Prop :=
  (∀ (i : Instr) (port : PortId) (w : Waiting) (s : State), requestOf i = some (port, w) → s.inReset = false →
    exec i s = .next (startTransmitters (offerRequest port w s))
    ∧ ((s.ports.get port).buffer.isSome = true →
      exec i s = .next (happened [] (s.setPort port { s.ports.get port with overrun := true })))
    ∧ ((s.ports.get port).buffer = none → (s.ports.get port).reply.isSome = true →
      exec i s = .next (happened [] (s.setPort port { s.ports.get port with buffer := some w }))))
  ∧ ((∀ c ∈ [0x01, 0x03, 0x10, 0x18, 0x1A, 0x20], ∀ p, roleAllows c p = true ↔ p = .depot)
  ∧ (∀ c ∈ [0x02, 0x04, 0x19, 0x1B, 0x21, 0x22, 0x41, 0x49], ∀ p, roleAllows c p = true)
  ∧ (∀ p, roleAllows 0x11 p = true ↔ p ≠ .lathe)
  ∧ (∀ c ∈ [0x30, 0x31, 0x40, 0x58, 0x59, 0x5A, 0x5B], ∀ p, roleAllows c p = true ↔ p = .lathe)
  ∧ (∀ c ∈ [0x32, 0x38, 0x39, 0x48, 0x50, 0x51, 0x52, 0x53], ∀ p, roleAllows c p = true ↔ p = .console))
  ∧ (∀ (port : PortId) (tag code : Byte) (s : State), PortReady port s →
    exec (.unknownMessageCode port tag code) s = .next (carriedOut port tag code (plainly .form) [] s))
  ∧ (∀ (i : Instr) (port : PortId) (w : Waiting) (s : State), requestOf i = some (port, w) → PortReady port s →
      (∀ c, w.request ≠ .unknownCode c) → roleAllows w.request.code port = false →
      exec i s = .next (carriedOut port w.tag w.request.code (plainly .role) [] s))
  ∧ (∀ (port : PortId) (w : Waiting) (s : State),
      ((s.ports.get port).buffer.isSome = true →
        offerRequest port w s = s.setPort port { s.ports.get port with overrun := true })
      ∧ ((s.ports.get port).buffer = none → (s.ports.get port).reply.isSome = true →
        offerRequest port w s = s.setPort port { s.ports.get port with buffer := some w }))
  ∧ ∀ (port : PortId) (tag code : Byte) (s : State), PortReady port s → code.toNat ∈ knownCodes →
      startTransmitters (offerRequest port ⟨tag, .badPayload code⟩ s)
        = carriedOut port tag code (plainly (if roleAllows code port then .form else .role)) [] s

/-- The numbers of R202, most significant byte first, the codes of 12.7, and what READ_STATUS shows: each block's part in the
order of R197, with the items of R19, R59, R86, R104, R134, R158 and R183. It shows the state as it stands, and then the flags and
the restart mark of the port that asked are cleared; its own reply still carries the mark (R197). That items have presence bytes
and which have none, and the coding of clamps, permits and brakes, is log 9; a number that does not fit is log 10. -/
def Obligations.ReadStatus : Prop :=
  ((∀ n, bytesOf 0 n = []) ∧ (∀ w n, bytesOf (w + 1) n = bytesOf w (n / 256) ++ [BitVec.ofNat 8 n])
    ∧ (∀ (w : Nat) (v : Int), 0 ≤ v → v < 256 ^ w → unsignedBytes w v = bytesOf w v.toNat)
    ∧ (∀ (w : Nat) (v : Int), 0 < w → -256 ^ w ≤ 2 * v → 2 * v < 256 ^ w → signedBytes w v = bytesOf w (v % 256 ^ w).toNat)
    ∧ (∀ n : Nat, oneByte n = unsignedBytes 1 n) ∧ (∀ v : Int, lengthBytes v = unsignedBytes 3 v)
    ∧ ∀ (α : Type) (w : Nat) (f : α → List Byte) (a : α),
        optionalBytes w f (some a) = oneByte 1 ++ f a ∧ optionalBytes w f none = bytesOf (w + 1) 0)
  ∧ ([Phase.idle, .staged, .supported, .clamped, .cutting, .halted].map Phase.code = List.range 6
    ∧ [HaltCause.estop, .tilt, .follow, .settle, .support].map HaltCause.code = [1, 2, 3, 4, 5]
    ∧ [HaltCause.estop, .tilt, .follow, .settle, .support].map (fun x => (CauseSet.only x).code) = [1, 2, 4, 8, 16]
    ∧ (∀ a b c d e : Bool, (CauseSet.mk a b c d e).code
        = (CauseSet.mk a false false false false).code + (CauseSet.mk false b false false false).code
          + (CauseSet.mk false false c false false).code + (CauseSet.mk false false false d false).code
          + (CauseSet.mk false false false false e).code)
    ∧ [LiftState.idle, .accel, .run, .decel, .creep, .settle, .fault].map LiftState.code = List.range 7
    ∧ [MoveClass.normal, .creep].map MoveClass.code = [0, 1]
    ∧ [MeasureState.none, .scanning, .valid, .disagree, .invalid, .stale].map MeasureState.code = List.range 6
    ∧ [none, some Reason.timeout, some .clampLost, some .halt, some .disorder, some .range, some .noFlange, some .noFace,
        some .agreement].map reasonCode = List.range 9
    ∧ [none, some Side.l, some .r].map reasonWheelCode = [0, 1, 2]
    ∧ [PlanStatus.fullPlan, .partialPlan, .empty].map PlanStatus.code = [0, 1, 2]
    ∧ [PlanOutcome.included, .excluded .budget, .excluded .exchange, .excluded .noTemplate, .excluded .noFit,
        .excluded .condemn, .excluded .depth, .excluded .matchCondemn, .excluded .matchDepth].map PlanOutcome.code
      = List.range 9
    ∧ [CutState.none, .planned, .running, .suspended, .complete, .abandoned].map CutState.code = List.range 6
    ∧ [none, some SuspendCause.operator, some .timeout, some .latheAbort, some .clampLost, some .halt].map suspendCode
      = List.range 6
    ∧ [PlanMode.fast, .full].map PlanMode.code = [0, 1] ∧ [Orientation.aOnL, .aOnR].map Orientation.code = [1, 2]
    ∧ [ScanState.idle, .collecting].map ScanState.code = [0, 1]
    ∧ [LinkRate.r115200, .r230400, .r460800, .r921600].map LinkRate.code = [0, 1, 2, 3]
    ∧ [Result.ok, .adjusted, .role, .form, .interlock, .busy, .full, .notFound, .bound, .inUse, .inFlight, .tool, .late,
        .stale, .none].map Result.code = List.range 15)
  ∧ (∀ s : State,
    let flag := fun (b : Bool) => oneByte (if b then 1 else 0)
    let step := fun (n : Option Nat) => oneByte (n.getD 0)
    let stations := fun (width : Nat) (items : Station → List Byte) =>
      oneByte 1 ++ items .one
        ++ (if s.straps.stationCount = .tandem then oneByte 1 ++ items .two else bytesOf (width + 1) 0)
    let port := fun (q : Port) =>
      flag q.lost ++ flag q.framing ++ flag q.overrun ++ flag q.restart ++ oneByte q.noticeNumber.toNat
        ++ oneByte q.queue.length
    let place := fun (p : JobPosition) => p.identity ++ oneByte p.orientation.code
    let job := fun (j : Job) =>
      unsignedBytes 2 j.number ++ lengthBytes j.odometer ++ (oneByte 1 ++ place j.position1)
        ++ optionalBytes 21 place j.position2 ++ oneByte j.mode.code ++ oneByte j.defaultTemplate ++ oneByte j.upperIndex
        ++ signedBytes 1 j.bias ++ lengthBytes j.supportHeight
    let jack := fun (a : Axis) =>
      lengthBytes a.command ++ lengthBytes a.measured ++ signedBytes 4 a.followingError
        ++ optionalBytes 3 lengthBytes a.target
    let move := fun (m : Move) => lengthBytes m.target ++ oneByte m.moveClass.code
    let level := jacksZip (fun (a : Axis) trim => a.measured - trim) s.lift.axes s.config.trims
    let side := fun (x : ScanSide) =>
      unsignedBytes 2 x.points.length ++ unsignedBytes 2 x.disorder ++ flag x.truncated ++ flag x.endMarker
        ++ oneByte x.captures.length
    let time := fun (n : Nat) => unsignedBytes 4 n
    let count := fun (n : RollerCount) => unsignedBytes 4 n.toNat
    let slot := fun (x : Slot) =>
      flag x.template.isSome ++ flag x.locked ++ flag (x.template.any fun t => decide (s.config.ftMin ≤ t.ftNom))
    let links := oneByte s.straps.linkRate.code ++ port s.ports.depot ++ port s.ports.lathe ++ port s.ports.console
    let pit :=
      oneByte s.interlock.phase.code ++ oneByte s.interlock.causes.code ++ flag s.interlock.estopLatch
        ++ stations 1 (fun st => flag (s.interlock.clamped.get st))
        ++ stations 1 (fun st => flag (s.interlock.permits.get st))
    let visit := oneByte (if s.straps.stationCount = .tandem then 2 else 1) ++ optionalBytes 56 job s.job
    let lift :=
      oneByte s.lift.state.code ++ flag s.lift.stopping ++ unsignedBytes 2 s.lift.speed
        ++ (jack s.lift.axes.j1 ++ jack s.lift.axes.j2 ++ jack s.lift.axes.j3 ++ jack s.lift.axes.j4)
        ++ optionalBytes 4 move s.lift.working ++ optionalBytes 4 move s.lift.staged
        ++ lengthBytes (jacksMax level - jacksMin level) ++ flag s.lift.brakesApplied
    let scans :=
      stations 20 (fun st =>
          let x := s.scans.get st
          oneByte x.state.code ++ side x.sides.l ++ side x.sides.r ++ optionalBytes 4 time x.timer)
        ++ count s.rollers.one.l ++ count s.rollers.one.r ++ count s.rollers.two.l ++ count s.rollers.two.r
    let measurements := stations 4 fun st =>
      let m := s.measurements.get st
      oneByte m.state.code ++ oneByte (reasonCode m.reason) ++ oneByte (reasonWheelCode m.reasonWheel) ++ flag m.verifyDue
    let plan :=
      match s.plan with
      | none => bytesOf 6 0
      | some p =>
        oneByte 1 ++ oneByte p.status.code
          ++ optionalBytes 1 (fun (r : PositionRecord) => oneByte r.outcome.code) p.positions.one
          ++ optionalBytes 1 (fun (r : PositionRecord) => oneByte r.outcome.code) p.positions.two
    let cut :=
      oneByte s.cut.state.code ++ oneByte (suspendCode s.cut.cause)
        ++ stations 11 (fun st =>
          let c := s.cut.contexts.get st
          step c.next ++ step c.inFlight ++ oneByte c.completed ++ flag c.firstDone ++ flag c.axleDone ++ step c.late
            ++ optionalBytes 4 time (s.cut.timers.get st))
        ++ oneByte s.cut.tools.one.l ++ oneByte s.cut.tools.one.r ++ oneByte s.cut.tools.two.l
        ++ oneByte s.cut.tools.two.r
    statusBytes s
      = links ++ pit ++ visit ++ oneByte s.store.length ++ lift ++ scans ++ measurements
        ++ (s.slots.toList.flatMap slot ++ oneByte s.disposition.entries.length) ++ plan ++ cut)
  ∧ ∀ (port : PortId) (tag : Byte) (s : State), PortReady port s →
    exec (.readStatus port tag) s = .next
      (startTransmitters
        (s.setPort port
          { s.ports.get port with
            lost := false, framing := false, overrun := false, restart := false
            reply := some ⟨0x22, tag, (s.ports.get port).restart, okWith (statusBytes s)⟩ }))

/-- The reading requests are answered OK with what they read and change nothing but the port that answers; a start index, a
template index or a position that does not exist is answered FORM. The list entry of 12.4, the measurement record of 12.5, and the
items of a slot, of a template (R134) and of a plan (R136 to R138, R158). The layouts of the untabled replies are log 9. -/
def Obligations.ReadingRequests : Prop :=
  (let bit := fun (b : Bool) (weight : Nat) => if b then weight else 0
   let flag := fun (b : Bool) => oneByte (bit b 1)
   let length := fun (v : Option Int) => lengthBytes (v.getD 0)
   let quad := fun (v : Option Int) => unsignedBytes 4 (v.getD 0)
   let index := fun (v : Option Nat) => oneByte (v.getD 0)
   let sides := fun (v : Option (Sides Int)) => length (v.map Sides.l) ++ length (v.map Sides.r)
   let wheel := fun (w : Wheel) =>
     oneByte w.outcome.code
       ++ oneByte (bit w.rTap.isSome 1 + bit w.tip.isSome 2 + bit w.ft.isSome 4 + bit w.slope.isSome 8 + bit w.span.isSome 16
         + bit w.difference.isSome 32 + bit w.truncated 64)
       ++ unsignedBytes 2 w.pointsKept ++ unsignedBytes 2 w.disorder ++ length w.rTap
       ++ (match w.tip with
         | some t => unsignedBytes 2 t.index ++ lengthBytes t.y ++ lengthBytes t.r ++ signedBytes 4 t.fh
         | none => bytesOf 12 0)
       ++ length w.ft
       ++ (match w.slope with
         | some x => lengthBytes x.yTip2 ++ signedBytes 4 x.qr
         | none => bytesOf 7 0)
       ++ quad (w.span.map fun n => (n : Int)) ++ quad w.dRoll ++ quad w.difference
   let entry := fun (e : Evaluation) =>
     match e with
     | .notConsidered => bytesOf 10 0
     | .ineligible => oneByte 1 ++ bytesOf 9 0
     | .notEvaluable .l => oneByte 2 ++ bytesOf 9 0
     | .notEvaluable .r => oneByte 3 ++ bytesOf 9 0
     | .evaluated a b c => oneByte 4 ++ lengthBytes a ++ lengthBytes b ++ lengthBytes c
   let step := fun (e : StepEntry) =>
     oneByte e.number ++ oneByte (if e.kind = .rough then 0 else 1) ++ lengthBytes e.depth.l ++ lengthBytes e.target.l
       ++ lengthBytes e.depth.r ++ lengthBytes e.target.r
   let position := fun (p : Option PositionRecord) =>
     match p with
     | none => bytesOf 115 0
     | some r =>
       oneByte 1
         ++ oneByte (bit r.chosen.isSome 1 + bit r.used.isSome 2 + bit r.ownRadius.isSome 4 + bit r.rFinal.isSome 8
           + bit r.maxRemoval.isSome 16 + bit r.tapingDepth.isSome 32 + bit r.stepCount.isSome 64 + bit r.rTap.isSome 128)
         ++ oneByte r.outcome.code ++ lengthBytes r.thinnerFt
         ++ oneByte (match r.lookup with
           | .template i => i
           | .exchange => 0xFE
           | .default => 0xFF)
         ++ r.evaluations.flatMap entry ++ index r.chosen ++ index r.used ++ length r.ownRadius ++ flag r.matched
         ++ length r.rFinal ++ sides r.rTap ++ sides r.maxRemoval ++ sides r.tapingDepth ++ index r.stepCount
         ++ r.steps.flatMap step
   (∀ r : AxleRecord, listEntry r
      = r.identity
        ++ oneByte (bit r.truncated 1 + bit r.wearAlert 2 + bit r.remeasure 4 + bit r.condemned 8 + bit r.dirty 32
          + 64 * (match r.binding with
            | .none => 0
            | .position1 => 1
            | .position2 => 2)))
   ∧ (∀ (st : Station) (m : Measurement), measurementBytes st m
      = oneByte (if st = .one then 1 else 2) ++ oneByte m.state.code
        ++ oneByte (match m.endCause with
          | none => 0
          | some .complete => 1
          | some .timeout => 2
          | some .clampLost => 3
          | some .halt => 4)
        ++ oneByte (reasonCode m.reason) ++ oneByte (reasonWheelCode m.reasonWheel)
        ++ oneByte (bit m.verifyDue 1
          + (match m.verifyOutcome with
            | .none => 0
            | .verified => 2
            | .verifyFail l r => 4 + bit l 8 + bit r 16)
          + bit m.verifyTarget.isSome 32)
        ++ length m.verifyTarget ++ unsignedBytes 2 (m.agreeTol.getD 0) ++ unsignedBytes 2 (m.verifyTol.getD 0)
        ++ wheel m.wheels.l ++ wheel m.wheels.r)
   ∧ [WheelOutcome.none, .disorder, .range, .noFlange, .noFace, .agreement, .pass].map WheelOutcome.code
      = [0, 4, 5, 6, 7, 8, 9]
   ∧ (∀ (ftMin : Int) (x : Slot), slotBytes ftMin x
      = flag x.template.isSome ++ flag x.locked ++ flag (x.template.any fun t => decide (ftMin ≤ t.ftNom)))
   ∧ (∀ t : Template, templateBytes t
      = t.name ++ lengthBytes t.ftNom ++ oneByte t.points.length
        ++ t.points.flatMap fun p => lengthBytes p.y ++ signedBytes 4 p.t)
   ∧ (∀ e : DispositionEntry, e.code
      = match e with
        | .template i => i
        | .exchange => 0xFE
        | .noEntry => 0xFF)
   ∧ ∀ p : Plan, planBytes p
      = unsignedBytes 2 p.jobNumber ++ oneByte p.mode.code ++ oneByte p.defaultTemplate ++ oneByte p.upperIndex
        ++ signedBytes 1 p.bias ++ oneByte p.status.code ++ position p.positions.one ++ position p.positions.two)
  ∧ ∀ (port : PortId) (tag : Byte) (s : State), PortReady port s →
    (∀ start, start ≤ 47 → exec (.listAxles port tag start) s = .next
      (carriedOut port tag 0x04
        (okWith (oneByte s.store.length ++ oneByte start ++ oneByte ((s.store.drop start).take 8).length
          ++ ((s.store.drop start).take 8).flatMap listEntry)) [] s))
    ∧ (∀ start, 47 < start →
      exec (.listAxles port tag start) s = .next (carriedOut port tag 0x04 (plainly .form) [] s))
    ∧ (∀ index, index ≤ 7 → exec (.readTemplate port tag index) s = .next
      (carriedOut port tag 0x19
        (okWith (slotBytes s.config.ftMin (slotAt s.slots index)
          ++ ((slotAt s.slots index).template.map templateBytes).getD [])) [] s))
    ∧ (∀ index, 7 < index →
      exec (.readTemplate port tag index) s = .next (carriedOut port tag 0x19 (plainly .form) [] s))
    ∧ exec (.readDisposition port tag) s = .next
      (carriedOut port tag 0x1B
        (okWith (optionalBytes 3 lengthBytes s.disposition.lower
          ++ optionalBytes 2 (unsignedBytes 2) s.disposition.width
          ++ oneByte s.disposition.entries.length ++ s.disposition.entries.flatMap fun e => oneByte e.code)) [] s)
    ∧ exec (.readConfig port tag) s = .next
      (carriedOut port tag 0x21 (okWith ((configValues s.config).flatMap (signedBytes 4))) [] s)
    ∧ (∀ position st, stationArg s position = some st → exec (.readMeasure port tag position) s = .next
      (carriedOut port tag 0x41 (okWith (measurementBytes st (s.measurements.get st))) [] s))
    ∧ (∀ position, stationArg s position = none →
      exec (.readMeasure port tag position) s = .next (carriedOut port tag 0x41 (plainly .form) [] s))
    ∧ exec (.readPlan port tag) s = .next
      (carriedOut port tag 0x49
        (okWith (match s.plan with
          | none => oneByte 0
          | some p => oneByte 1 ++ planBytes p)) [] s)

/-- SET_CONFIG stores the value, clamped into its range, answers OK or ADJUSTED with it, and leaves every other item (R199).
At a changed y_tap a slot whose template has a point there with t equal to 0 keeps it, and every other slot is emptied (R127);
a changed window with a job open re-derives the phase (R2). Which items exist, which are marked and their ranges are the table
of R198, in ConfigInRangeKept. -/
def Obligations.SetConfig : Prop :=
  ∀ (tag : Byte) (item index : Nat) (value : Int) (s : State), PortReady .depot s →
    let v := clampInt (itemRange s.config item).1 (itemRange s.config item).2 value
    let c := storeItem s.config index v item
    let reply : Answer := ⟨if v = value then .ok else .adjusted, oneByte item ++ oneByte index ++ signedBytes 4 v⟩
    (itemNamed item index = false →
      exec (.setConfig .depot tag item index value) s = .next (carriedOut .depot tag 0x20 (plainly .form) [] s))
    ∧ (itemNamed item index = true → itemMarked item = true → s.interlock.phase ≠ .idle →
      exec (.setConfig .depot tag item index value) s = .next (carriedOut .depot tag 0x20 (plainly .interlock) [] s))
    ∧ (itemNamed item index = true → (itemMarked item = true → s.interlock.phase = .idle) →
      (ConfigInRange.storedAt c item index = v
        ∧ (∀ item' index', itemNamed item' index' = true → (item' ≠ item ∨ index' ≠ index) →
            ConfigInRange.storedAt c item' index' = ConfigInRange.storedAt s.config item' index'))
      ∧ (c.window = s.config.window ∨ s.job = none →
          exec (.setConfig .depot tag item index value) s = .next
            (carriedOut .depot tag 0x20 reply []
              { s with
                config := c
                slots :=
                  if c.yTap = s.config.yTap then s.slots
                  else s.slots.map fun x =>
                    match x.template with
                    | some t => if ∃ p ∈ t.points, p.y = c.yTap ∧ p.t = 0 then x else { x with template := none }
                    | none => x }))
      ∧ (c.window ≠ s.config.window → s.job.isSome = true →
          (∀ p, derivedPhase { s with config := c } = some p →
            exec (.setConfig .depot tag item index value) s = .next
              (carriedOut .depot tag 0x20 reply (phaseNotice s p)
                { s with config := c, interlock := heldPhase s p s.interlock.clamped }))
          ∧ (derivedPhase { s with config := c } = none →
            exec (.setConfig .depot tag item index value) s = .next
              (carriedOut .depot tag 0x20 reply (haltNotices .support { s with config := c })
                (haltEffect .support { s with config := c })))))

/-- The CRC of R188 with its check value; a good request frame in one piece, received at a port that hunts, does what a
request frame does at that port (R187, R189, R204); and what a code and a payload spell (12.2, 12.4, R202, R203): every
request a link can send is read back from its payload, and every payload that does not fit its code is a bad one. That
FRAME_RECEIVED is its bytes one by one is log 5; that bits 5..2 and 7 of the frame type of a received frame are ignored is log
6; that a second part of no bytes is joined to the held part is log 8; log 28 gives the byte-gap timer its 3 ms and log 32
takes a frame that does not continue a held part as a request of its own. -/
def Obligations.FrameReceived : Prop :=
  (crcOf [0x31, 0x32, 0x33, 0x34, 0x35, 0x36, 0x37, 0x38, 0x39] = 0x29B1
    ∧ crcOf [] = 0xFFFF
    ∧ ∀ (bytes : List Byte) (b : Byte),
        let bit := fun (c : Crc) => if c.getLsbD 15 then (c <<< 1) ^^^ 0x1021#16 else c <<< 1
        crcOf (bytes ++ [b])
          = bit (bit (bit (bit (bit (bit (bit (bit (crcOf bytes ^^^ (b.setWidth 16 <<< 8))))))))))
  ∧ (∀ (port : PortId) (frameType code tag : Byte) (payload : List Byte) (s : State),
    s.inReset = false → (s.ports.get port).receive = .hunting → frameType.toNat % 4 = 1 → payload.length ≤ 240 →
    exec (.frameReceived port (frameBytes frameType code tag payload)) s = .next
      (startTransmitters
        (requestFrameTaken port frameType code tag payload
          (s.setPort port { s.ports.get port with received := [], gapTimer := none }))))
  ∧ (∀ (i : Instr) (port : PortId) (w : Waiting), requestOf i = some (port, w) → i.wellFormed = true →
      (∀ image, w.request = .loadAxle image → image.history.length ≤ 12) →
      readRequest w.request.code (payloadOf w.request) = w.request)
  ∧ (∀ (code : Byte) (payload : List Byte), code.toNat ∉ knownCodes → readRequest code payload = .unknownCode code)
  ∧ (∀ x ∈ [(0x04, 1), (0x11, 0), (0x19, 1), (0x1B, 0), (0x20, 6), (0x21, 0), (0x22, 0), (0x30, 1), (0x31, 1), (0x32, 0),
        (0x38, 4), (0x39, 1), (0x40, 1), (0x41, 1), (0x48, 0), (0x49, 0), (0x50, 0), (0x51, 0), (0x52, 0), (0x53, 0),
        (0x58, 1), (0x59, 2), (0x5A, 2), (0x5B, 3)],
      ∀ payload : List Byte, payload.length ≠ x.2 →
        readRequest (BitVec.ofNat 8 x.1) payload = .badPayload (BitVec.ofNat 8 x.1))
  ∧ (∀ mode : Byte, 2 ≤ mode.toNat → readRequest 0x39 [mode] = .badPayload 0x39)
  ∧ (∀ payload : List Byte,
      let at_ := fun (k : Nat) => (payload.getD k 0).toNat
      (payload = [] ∨ payload.length ≠ 1 + at_ 0 →
        readRequest 0x02 payload = .badPayload 0x02 ∧ readRequest 0x03 payload = .badPayload 0x03)
      ∧ (payload.length < 16 + at_ 13 ∨ payload.length ≠ 16 + at_ 13 + at_ (15 + at_ 13) →
        readRequest 0x10 payload = .badPayload 0x10)
      ∧ (payload.length < 13 ∨ (payload.length - 13) % 7 ≠ 0 → readRequest 0x18 payload = .badPayload 0x18)
      ∧ (payload.length < 6 → readRequest 0x1A payload = .badPayload 0x1A)
      ∧ (payload.length < 18 + at_ 0 → readRequest 0x01 payload = .badPayload 0x01)
      ∧ (18 + at_ 0 ≤ payload.length →
          (12 < at_ (17 + at_ 0) → readRequest 0x01 payload = .badPayload 0x01)
          ∧ readRequest 0x01 (payload.set (1 + at_ 0) (payload.getD (1 + at_ 0) 0 &&& 0x1F)) = readRequest 0x01 payload
          ∧ ((payload.getD (1 + at_ 0) 0).getLsbD 4 = false → ∀ a b : Byte,
              readRequest 0x01 ((payload.set (15 + at_ 0) a).set (16 + at_ 0) b) = readRequest 0x01 payload)))
  ∧ ∀ image : AxleImage, fitsImage image = true → image.history.length ≤ 12 →
      (∀ extra, extra ≠ [] → readRequest 0x01 (imagePayload image ++ extra) = .badPayload 0x01)
      ∧ (∀ k, k < (imagePayload image).length → readRequest 0x01 ((imagePayload image).take k) = .badPayload 0x01)
      ∧ ∀ (count : Nat) (kind : Byte) (rest : List Byte), image.history.length < count → count ≤ 12 →
          (6 < kind.toNat % 16 ∨ (kind.getLsbD 7 = true ∧ kind.toNat % 16 ≠ 1)) →
          readRequest 0x01 (imageHead image count ++ image.history.flatMap eventBytes ++ kind :: rest)
            = .badPayload 0x01

/-- One character. In HUNTING a start marker begins a frame, and any other character drops a held first part with FRAMING, or
is dropped itself. In RECEIVING a byte joins the frame and starts the byte-gap timer again (3 ms, log 28). A missing
stop bit, a payload length above 240, a bad CRC, or a frame type other than REQUEST discards the frame and a held part with
FRAMING (R187, R188, R204). A good REQUEST frame does what a request frame does at its port (R189, R204). A broken character
between two parts is log 7, the ignored bits of the frame type are log 6, and a second part of no bytes, which is joined as any
other is, is log 8. -/
def Obligations.CharacterReceived : Prop :=
  ∀ (port : PortId) (byte : Byte) (s : State), s.inReset = false →
    let q := s.ports.get port
    let discarded : Port :=
      { q with receive := .hunting, received := [], held := none, gapTimer := none, framing := true }
    let joined : Port := { q with received := q.received ++ [byte], gapTimer := some 3 }
    let becomes := fun (stopBit : Bool) (next : Port) =>
      exec (.characterReceived port byte stopBit) s = .next (happened [] (s.setPort port next))
    let length := ((q.received ++ [byte]).getD 3 0).toNat
    let whole := q.received ++ [byte]
    let body := whole.take (4 + length)
    let good := whole.drop (4 + length) = bytesOf 2 (crcOf body).toNat ∧ (whole.getD 0 0).toNat % 4 = 1
    (q.receive = .hunting →
      exec (.characterReceived port 0xA5 true) s = .next
        (happened [] (s.setPort port { q with receive := .receiving, received := [], gapTimer := some 3 })))
    ∧ (∀ stopBit, q.receive = .hunting → stopBit = false ∨ byte ≠ 0xA5 →
        (q.held = none → exec (.characterReceived port byte stopBit) s = .next (happened [] s))
        ∧ (q.held.isSome = true → becomes stopBit { q with held := none, gapTimer := none, framing := true }))
    ∧ (q.receive = .receiving →
        becomes false discarded
        ∧ (q.received.length < 3 → becomes true joined)
        ∧ (q.received.length = 3 → (240 < byte.toNat → becomes true discarded)
            ∧ (byte.toNat ≤ 240 → becomes true joined))
        ∧ (3 < q.received.length → whole.length < length + 6 → becomes true joined)
        ∧ (3 < q.received.length → whole.length = length + 6 →
            (¬ good → becomes true discarded)
            ∧ (good →
              exec (.characterReceived port byte true) s = .next
                (startTransmitters
                  (requestFrameTaken port (whole.getD 0 0) (whole.getD 1 0) (whole.getD 2 0) (body.drop 4)
                    (s.setPort port { q with receive := .hunting, received := [], gapTimer := none }))))))

/-- The byte-gap timer's expiry discards the frame being received, or the held first part, with FRAMING (R187, R204); with
the timer stopped it changes nothing (log 20). -/
def Obligations.ByteGapTimerExpiry : Prop :=
  ∀ (port : PortId) (s : State), s.inReset = false →
    let q := s.ports.get port
    (q.gapTimer = none → exec (.byteGapTimerExpiry port) s = .next (happened [] s))
    ∧ (q.gapTimer.isSome = true → (q.receive = .receiving ∨ q.held.isSome = true) →
        exec (.byteGapTimerExpiry port) s = .next
          (happened []
            (s.setPort port
              { q with
                receive := .hunting, held := none, gapTimer := none, framing := true
                received := if q.receive = .receiving then [] else q.received })))

/-- What an IDLE transmitter sends, and the end of a transmission. It chooses the reply before the notices; a reply of more
than 240 bytes goes in two parts; with no reply the oldest notice is removed from the queue and sent, with the restart mark
that stands; with nothing to send, or with a frame being sent, it changes nothing (R192, R193, R196, R204; log 29 for the mark
of a reply). A notice has the code and the payload of 12.6; an absent position of PLAN_DONE is 7 zeros (log 9). After a
notice, or with nothing sent (log 20), the transmitter chooses; a first part is followed by its second part; the end of a
reply empties the slot, and a request that waits is taken at the same event (R189, R193, R204). -/
def Obligations.TransmitEnd : Prop :=
  ((∀ s : State, startTransmitters s
      = { s with ports := ⟨startPort s.ports.depot, startPort s.ports.lathe, startPort s.ports.console⟩ })
    ∧ (∀ r : Reply, replyPayload r = oneByte r.answer.result.code ++ r.answer.contents)
    ∧ (∀ n : NoticeBody,
      let jack := fun (c m : Int) => lengthBytes c ++ lengthBytes m
      let station := fun (st : Station) => oneByte (if st = .one then 1 else 2)
      let position := fun (p : Option PositionRecord) =>
        match p with
        | none => bytesOf 7 0
        | some r =>
          oneByte 1 ++ oneByte r.outcome.code ++ oneByte (r.used.getD 0xFF) ++ lengthBytes (r.rFinal.getD 0)
            ++ oneByte (r.stepCount.getD 0)
      let report := fun (x : StepReport) (next : Option Nat) =>
        (match x with
          | .none => [0, 0, 0]
          | .completed k => oneByte 1 ++ oneByte k ++ [0]
          | .aborted k c => oneByte 2 ++ oneByte k ++ oneByte (suspendCode (some c))) ++ oneByte (next.getD 0)
      let bit := fun (b : Bool) (weight : Nat) => if b then weight else 0
      (n.code, noticePayload n)
        = match n with
          | .phase previous new => (0x81, oneByte previous.code ++ oneByte new.code)
          | .liftDone outcome move cause c m =>
            (0x82,
              oneByte (match outcome with
                | .reached => 0
                | .stoppedShort => 1
                | .faulted => 2
                | .stagedDropped => 3)
                ++ lengthBytes move.target ++ oneByte move.moveClass.code ++ oneByte ((cause.map HaltCause.code).getD 0)
                ++ jack c.j1 m.j1 ++ jack c.j2 m.j2 ++ jack c.j3 m.j3 ++ jack c.j4 m.j4)
          | .liftFault cause named before spread c m e =>
            (0x83,
              oneByte cause.code ++ oneByte (bit named.j1 1 + bit named.j2 2 + bit named.j3 4 + bit named.j4 8)
                ++ oneByte before.code ++ lengthBytes spread ++ (jack c.j1 m.j1 ++ signedBytes 4 e.j1)
                ++ (jack c.j2 m.j2 ++ signedBytes 4 e.j2) ++ (jack c.j3 m.j3 ++ signedBytes 4 e.j3)
                ++ (jack c.j4 m.j4 ++ signedBytes 4 e.j4))
          | .scanDone st m => (0x84, measurementBytes st m)
          | .planDone p =>
            (0x85, unsignedBytes 2 p.jobNumber ++ oneByte p.status.code ++ position p.positions.one
              ++ position p.positions.two)
          | .cutState job before after cause reports next =>
            (0x86, unsignedBytes 2 job ++ oneByte before.code ++ oneByte after.code ++ oneByte (suspendCode cause)
              ++ report reports.one next.one ++ report reports.two next.two)
          | .toolOut st side => (0x87, station st ++ oneByte (if side = .l then 0 else 1))
          | .recordChanged identity x =>
            (0x88, identity ++ oneByte (bit x.history 1 + bit x.budget 2 + bit x.diameters 4 + bit x.wear 8 + bit x.flags 16
              + bit x.binding 32))
          | .halted raised causes => (0x89, oneByte raised.code ++ oneByte causes.code))
    ∧ (∀ q : Port,
      (q.transmitter ≠ .idle → startPort q = q)
      ∧ (q.transmitter = .idle →
        (∀ r, q.reply = some r →
          ((replyPayload r).length ≤ 240 →
            startPort q = { q with
              transmitter := .sendingReply .whole
              sending := frameBytes (if r.restart then 0x82 else 0x02) r.code r.tag (replyPayload r) })
          ∧ (240 < (replyPayload r).length →
            startPort q = { q with
              transmitter := .sendingReply .first
              sending := frameBytes (if r.restart then 0xC2 else 0x42) r.code r.tag ((replyPayload r).take 240) }))
        ∧ (q.reply = none →
          (∀ n rest, q.queue = n :: rest →
            startPort q = { q with
              transmitter := .sendingNotice, queue := rest
              sending := frameBytes (if q.restart then 0x83 else 0x03) n.body.code n.number (noticePayload n.body) })
          ∧ (q.queue = [] → startPort q = q))))
    ∧ ∀ (frameType code tag : Byte) (payload : List Byte),
        let body := frameType :: code :: tag :: BitVec.ofNat 8 payload.length :: payload
        frameBytes frameType code tag payload
          = [0xA5] ++ body ++ [(crcOf body).extractLsb' 8 8, (crcOf body).extractLsb' 0 8])
  ∧ ∀ (port : PortId) (s : State), s.inReset = false →
    let q := s.ports.get port
    (q.transmitter = .sendingNotice →
      exec (.transmitEnd port) s = .next (happened [] (s.setPort port { q with transmitter := .idle, sending := [] })))
    ∧ (∀ r, q.transmitter = .sendingReply .first → q.reply = some r →
        exec (.transmitEnd port) s = .next
          (happened []
            (s.setPort port
              { q with
                transmitter := .sendingReply .second
                sending := frameBytes (if r.restart then 0x82 else 0x02) r.code r.tag
                  ((replyPayload r).drop 240) })))
    ∧ (∀ part, q.transmitter = .sendingReply part → part ≠ .first →
        (q.buffer = none →
          exec (.transmitEnd port) s = .next
            (happened [] (s.setPort port { q with transmitter := .idle, sending := [], reply := none })))
        ∧ (∀ w, q.buffer = some w →
          exec (.transmitEnd port) s = .next
            (startTransmitters
              (takeRequest port w (s.setPort port { q with transmitter := .idle, sending := [], reply := none })))))
    ∧ (q.transmitter = .idle → exec (.transmitEnd port) s = .next (happened [] s))

/-! ## Record Store -/

/-- LOAD_AXLE (R25, R26): a valid record is placed by its folded identity, replacing an unbound record or inserted; it is
refused FORM, BOUND or FULL otherwise. After it the record is found under its identity and every other as before. The image is
valid exactly where its fields lie in the ranges of R20 and its events in those of R33 and R34, and the record placed has the
fields of R23, R26 and R27. -/
def Obligations.LoadAxle : Prop :=
  (∀ i : AxleImage, imageValid i = true ↔
    (600000 ≤ i.newDia ∧ i.newDia ≤ 1250000) ∧ (400000 ≤ i.condemnDia ∧ i.condemnDia < i.newDia)
    ∧ (i.condemnDia ≤ i.turnedA ∧ i.turnedA ≤ i.newDia) ∧ (i.condemnDia ≤ i.turnedB ∧ i.turnedB ≤ i.newDia)
    ∧ i.budget ≤ 15 ∧ (∀ w, i.wear = some w → w ≤ 65535) ∧ i.history.length ≤ 12
    ∧ ∀ e ∈ i.history,
        ((1 ≤ e.jobNumber ∧ e.jobNumber ≤ 65535) ∨ (e.jobNumber = 0 ∧ e.kind = .loaded)) ∧ e.odometer ≤ 9999999
        ∧ (0 ≤ e.diameterA ∧ e.diameterA ≤ 2000000) ∧ (0 ≤ e.diameterB ∧ e.diameterB ≤ 2000000)
        ∧ match e.kind with
          | .measure a b w => (0 ≤ a ∧ a ≤ 160000) ∧ (0 ≤ b ∧ b ≤ 160000) ∧ ∀ x, w = some x → x ≤ 65535
          | .verifyFail a b => a = true ∨ b = true
          | .cut template removal => template ≤ 7 ∧ 0 ≤ removal ∧ removal ≤ 65535
          | .partialCut n => 1 ≤ n ∧ n ≤ 7
          | _ => True)
  ∧ (∀ (i : AxleImage) (f : Folded), loadedRecord i f
      = { identity := f.identity, truncated := f.truncated || i.truncated, newDia := i.newDia
          condemnDia := i.condemnDia, turnedA := i.turnedA, turnedB := i.turnedB, budget := i.budget, wear := i.wear
          dirty := false, wearAlert := i.wearAlert, remeasure := i.remeasure, condemned := i.condemned, binding := .none
          history := if i.history = [] then [⟨.loaded, 0, 0, i.turnedA, i.turnedB⟩] else i.history })
  ∧ ∀ (tag : Byte) (image : AxleImage) (s : State), PortReady .depot s →
    (fold image.identity = none ∨ imageValid image = false →
      exec (.loadAxle .depot tag image) s = .next (carriedOut .depot tag 0x01 (plainly .form) [] s))
    ∧ ∀ f, fold image.identity = some f → imageValid image = true →
      let store := placeRecord (loadedRecord image f) s.store
      (∀ held, findRecord f.identity s.store = some held → held.binding ≠ .none →
        exec (.loadAxle .depot tag image) s = .next (carriedOut .depot tag 0x01 (plainly .bound) [] s))
      ∧ (∀ held, findRecord f.identity s.store = some held → held.binding = .none →
        exec (.loadAxle .depot tag image) s = .next
          (carriedOut .depot tag 0x01 (okWith (loadReply 1 f store)) [] { s with store := store }))
      ∧ (findRecord f.identity s.store = none → 48 ≤ s.store.length →
        exec (.loadAxle .depot tag image) s = .next (carriedOut .depot tag 0x01 (plainly .full) [] s))
      ∧ (findRecord f.identity s.store = none → s.store.length < 48 →
        exec (.loadAxle .depot tag image) s = .next
          (carriedOut .depot tag 0x01 (okWith (loadReply 0 f store)) [] { s with store := store }))
      ∧ findRecord f.identity store = some (loadedRecord image f)
      ∧ ∀ other, other ≠ f.identity → findRecord other store = findRecord other s.store

/-- Folding (R22, R23): an identity fails where it has no byte or more than 32, a byte below 0x20 or above 0x7E, or no byte
that is kept; otherwise the kept bytes, in upper case, fill 20 places, and TRUNCATED says that there were more. READ_AXLE
answers with the record as it stood and clears its DIRTY, on any port (R28). UNLOAD_AXLE answers with the record and removes
it, unless it is bound (R29). Both answer FORM to an identity that fails folding. The record and its events go in the layout
of 12.4. -/
def Obligations.ReadAndUnloadAxle : Prop :=
  (let bit := fun (b : Bool) (weight : Nat) => if b then weight else 0
   let event := fun (e : HistoryEvent) =>
     let head := fun (kind : Nat) =>
       oneByte kind ++ unsignedBytes 2 e.jobNumber ++ lengthBytes e.odometer ++ lengthBytes e.diameterA
         ++ lengthBytes e.diameterB
     match e.kind with
     | .loaded => head 0
     | .measure a b none => head 1 ++ (lengthBytes a ++ lengthBytes b)
     | .measure a b (some w) => head 0x81 ++ (lengthBytes a ++ lengthBytes b ++ unsignedBytes 2 w)
     | .verified => head 2
     | .verifyFail a b => head 3 ++ oneByte (bit a 1 + bit b 2)
     | .cut template removal => head 4 ++ (oneByte template ++ unsignedBytes 2 removal)
     | .partialCut n => head 5 ++ oneByte n
     | .excluded reason => head 6 ++ oneByte (exclusionCode reason)
   (∀ e : HistoryEvent, eventBytes e = event e)
   ∧ ∀ r : AxleRecord, recordImage r
      = oneByte r.identity.length ++ r.identity
        ++ oneByte (bit r.truncated 1 + bit r.wearAlert 2 + bit r.remeasure 4 + bit r.condemned 8 + bit r.wear.isSome 16
          + bit r.dirty 32
          + 64 * (match r.binding with
            | .none => 0
            | .position1 => 1
            | .position2 => 2))
        ++ lengthBytes r.newDia ++ lengthBytes r.condemnDia ++ lengthBytes r.turnedA ++ lengthBytes r.turnedB
        ++ oneByte r.budget ++ unsignedBytes 2 (((r.wear.getD 0) : Nat) : Int) ++ oneByte r.history.length
        ++ r.history.flatMap event)
  ∧ [ExclusionReason.budget, .exchange, .noTemplate, .noFit, .condemn, .depth, .matchCondemn, .matchDepth].map exclusionCode
      = [1, 2, 3, 4, 5, 6, 7, 8]
  ∧ (∀ bytes : List Byte,
    let upper := fun (b : Byte) => if 0x61 ≤ b.toNat ∧ b.toNat ≤ 0x7A then b - 0x20 else b
    let kept := (bytes.filter fun b => !([0x2D, 0x20, 0x2F, 0x2E] : List Byte).contains b).map upper
    (fold bytes = none ↔
      bytes = [] ∨ 32 < bytes.length ∨ (∃ b ∈ bytes, b.toNat < 0x20 ∨ 0x7E < b.toNat) ∨ kept = [])
    ∧ ∀ f, fold bytes = some f →
        f.identity = (kept ++ List.replicate 20 0x20).take 20 ∧ (f.truncated = true ↔ 20 < kept.length))
  ∧ (∀ (port : PortId) (tag : Byte) (identity : List Byte) (s : State), fold identity = none →
    (PortReady port s →
      exec (.readAxle port tag identity) s = .next (carriedOut port tag 0x02 (plainly .form) [] s))
    ∧ (PortReady .depot s →
      exec (.unloadAxle .depot tag identity) s = .next (carriedOut .depot tag 0x03 (plainly .form) [] s)))
  ∧ ∀ (port : PortId) (tag : Byte) (identity : List Byte) (f : Folded) (s : State), fold identity = some f →
    (PortReady port s →
      (findRecord f.identity s.store = none →
        exec (.readAxle port tag identity) s = .next (carriedOut port tag 0x02 (plainly .notFound) [] s))
      ∧ ∀ r, findRecord f.identity s.store = some r →
        exec (.readAxle port tag identity) s = .next
          (carriedOut port tag 0x02 (okWith (boolByte f.truncated ++ recordImage r)) []
            { s with
              store := s.store.map fun x => if x.identity = f.identity then { x with dirty := false } else x }))
    ∧ (PortReady .depot s →
      (findRecord f.identity s.store = none →
        exec (.unloadAxle .depot tag identity) s = .next (carriedOut .depot tag 0x03 (plainly .notFound) [] s))
      ∧ ∀ r, findRecord f.identity s.store = some r →
        (r.binding ≠ .none →
          exec (.unloadAxle .depot tag identity) s = .next (carriedOut .depot tag 0x03 (plainly .bound) [] s))
        ∧ (r.binding = .none →
          exec (.unloadAxle .depot tag identity) s = .next
            (carriedOut .depot tag 0x03 (okWith (boolByte f.truncated ++ recordImage r)) []
              { s with store := s.store.filter fun x => x.identity != f.identity })))

/-- The wear rate (R40): the newest CUT event is the reference; a rate is computed exactly where the distance is positive and the
diameter has not grown. The MEASURE append (R39, R41, R32): the event with its rate, or without one, goes to the end of the ring,
whose oldest event leaves a full ring; the wear rate and WEAR_ALERT follow a computed rate and stay without one; REMEASURE is
cleared and DIRTY set; nothing else of the record changes. -/
def Obligations.WearRate : Prop :=
  ((∀ e : HistoryEvent, isCutEvent e = true ↔ ∃ template removal, e.kind = .cut template removal)
  ∧ (∀ (h : List HistoryEvent) (dNow : Int) (kmNow : Nat), (∀ e ∈ h, isCutEvent e = false) → wearRate h dNow kmNow = none)
  ∧ ∀ (h1 h2 : List HistoryEvent) (c : HistoryEvent) (dNow : Int) (kmNow : Nat),
      isCutEvent c = true → (∀ e ∈ h2, isCutEvent e = false) →
      let dCut := minInt c.diameterA c.diameterB
      (c.odometer < kmNow → dNow ≤ dCut →
        wearRate (h1 ++ c :: h2) dNow kmNow
          = some (minInt 65535 ((dCut - dNow) * 10000 / ((kmNow : Int) - (c.odometer : Int)))).toNat)
      ∧ (kmNow ≤ c.odometer ∨ dCut < dNow → wearRate (h1 ++ c :: h2) dNow kmNow = none))
  ∧ ∀ (j : Job) (o : Orientation) (diameter ft : Sides Int) (alertRate : Int) (r : AxleRecord),
    let dA := endA o diameter
    let dB := endB o diameter
    let rate := wearRate r.history (minInt dA dB) j.odometer
    let event : HistoryEvent := ⟨.measure (endA o ft) (endB o ft) rate, j.number, j.odometer, dA, dB⟩
    ∃ ring, measureRecord j o diameter ft alertRate r
        = { r with
            history := ring, dirty := true, remeasure := false
            wear := match rate with
              | some w => some w
              | none => r.wear
            wearAlert := match rate with
              | some w => if alertRate = 0 then r.wearAlert else decide (alertRate < w)
              | none => r.wearAlert }
      ∧ (r.history.length < 12 → ring = r.history ++ [event])
      ∧ (r.history.length = 12 → ring = r.history.tail ++ [event])

/-! ## Job Register -/

/-- SET_JOB opens the job whole (R48): its items are set, its records bound, both measurements NONE, no plan, and the phase
SUPPORTED or STAGED; the notices are PHASE, then one RECORD_CHANGED for each position. Before that the rows of R47 are tried
in their order: INTERLOCK outside IDLE, FORM for a field out of range, an identity of more than 32 bytes among them, then the
rows that name a position. That a FORM of row 2 carries its result code alone, and that an identity of no byte at position 1
fails folding at row 3 (R203), is log 23; the bytes of the OK reply are log 9. -/
def Obligations.SetJob : Prop :=
  ((∀ f : JobFields,
      (secondAbsent f = true ↔ f.orientation2 = 0 ∧ f.identity2 = [])
      ∧ (jobNumbersValid f = true ↔
          (1 ≤ f.jobNumber ∧ f.jobNumber ≤ 65535) ∧ f.odometer ≤ 9999999 ∧ f.mode ≤ 1 ∧ f.defaultTemplate ≤ 7
          ∧ f.upperIndex ≤ 7 ∧ (-3 ≤ f.bias ∧ f.bias ≤ 3) ∧ (200000 ≤ f.supportHeight ∧ f.supportHeight ≤ 1400000))
      ∧ (jobOrientationsValid f = true ↔
          (f.orientation1 = 1 ∨ f.orientation1 = 2)
          ∧ ((f.orientation2 = 0 ∧ f.identity2 = []) ∨ ((f.orientation2 = 1 ∨ f.orientation2 = 2) ∧ f.identity2 ≠ []))))
    ∧ ∀ (f : JobFields) (first : Folded) (second : Option Folded), jobNumbersValid f = true →
        jobOrientationsValid f = true → (second.isSome = true → secondAbsent f = false) →
        let facing := fun (code : Nat) => if code = 1 then Orientation.aOnL else Orientation.aOnR
        ChangeSet.bindingOnly = ⟨false, false, false, false, false, true⟩ ∧ openedJob f first second
          = { number := f.jobNumber, odometer := f.odometer
              position1 := ⟨first.identity, facing f.orientation1⟩
              position2 := second.map fun x => ⟨x.identity, facing f.orientation2⟩
              mode := if f.mode = 0 then .fast else .full
              defaultTemplate := f.defaultTemplate, upperIndex := f.upperIndex, bias := f.bias
              supportHeight := f.supportHeight })
  ∧ (∀ (tag : Byte) (f : JobFields) (first : Folded) (r1 : AxleRecord) (s : State), PortReady .depot s →
    s.interlock.phase = .idle → s.interlock.causes.nonempty = false → anyClamped s = false →
    jobNumbersValid f = true → jobOrientationsValid f = true → fold f.identity1 = some first →
    findRecord first.identity s.store = some r1 → r1.condemned = false →
    let opened := fun (second : Option Folded) (store : List AxleRecord) (one two : List Byte) (more : List NoticeBody) =>
      let j := openedJob f first second
      let p : Phase := if supportHolds s j then .supported else .staged
      carriedOut .depot tag 0x10 (okWith (unsignedBytes 2 f.jobNumber ++ oneByte p.code ++ one ++ two))
        ([.phase .idle p, .recordChanged first.identity .bindingOnly] ++ more)
        { s with
          job := some j, store := store, measurements := ⟨.reset, .reset⟩, plan := none, cut := emptiedCut s.cut
          interlock := heldPhase s p s.interlock.clamped }
    let bind := fun (id : List Byte) (b : Binding) (store : List AxleRecord) =>
      store.map fun x => if x.identity = id then { x with binding := b } else x
    let entry := fun (x : Folded) (r : AxleRecord) =>
      oneByte 1 ++ x.identity ++ boolByte r.truncated ++ boolByte x.truncated
    (secondAbsent f = true →
      exec (.setJob .depot tag f) s = .next
        (opened none (bind first.identity .position1 s.store) (entry first r1) (bytesOf 23 0) []))
    ∧ ∀ second r2, secondAbsent f = false → s.straps.stationCount = .tandem → fold f.identity2 = some second →
        first.identity ≠ second.identity → findRecord second.identity s.store = some r2 → r2.condemned = false →
        exec (.setJob .depot tag f) s = .next
          (opened (some second)
            (bind second.identity .position2 (bind first.identity .position1 s.store))
            (entry first r1) (entry second r2) [.recordChanged second.identity .bindingOnly]))
  ∧ ∀ (tag : Byte) (f : JobFields) (s : State), PortReady .depot s →
    let answered := fun (r : Result) (position : List Byte) =>
      exec (.setJob .depot tag f) s = .next (carriedOut .depot tag 0x10 ⟨r, position⟩ [] s)
    let short := f.identity1.length ≤ 32 ∧ f.identity2.length ≤ 32
    (s.interlock.phase ≠ .idle → answered .interlock [])
    ∧ (s.interlock.phase = .idle → (jobNumbersValid f = false ∨ jobOrientationsValid f = false ∨ ¬ short) →
        answered .form [])
    ∧ (s.interlock.phase = .idle → jobNumbersValid f = true → jobOrientationsValid f = true → short →
        (fold f.identity1 = none → answered .form [1])
        ∧ ∀ first, fold f.identity1 = some first →
            (secondAbsent f = true →
              (findRecord first.identity s.store = none → answered .notFound [1])
              ∧ ∀ r1, findRecord first.identity s.store = some r1 → r1.condemned = true → answered .form [1])
            ∧ (secondAbsent f = false →
              (fold f.identity2 = none → answered .form [2])
              ∧ ∀ second, fold f.identity2 = some second →
                  (s.straps.stationCount = .single → answered .form [2])
                  ∧ (s.straps.stationCount = .tandem →
                      (first.identity = second.identity → answered .form [2])
                      ∧ (first.identity ≠ second.identity →
                          (findRecord first.identity s.store = none → answered .notFound [1])
                          ∧ ∀ r1, findRecord first.identity s.store = some r1 →
                              (findRecord second.identity s.store = none → answered .notFound [2])
                              ∧ ∀ r2, findRecord second.identity s.store = some r2 →
                                  (r1.condemned = true → answered .form [1])
                                  ∧ (r1.condemned = false → r2.condemned = true → answered .form [2])))))

/-- CLOSE_JOB ends the visit whole (R55, R56): the plan and its locks go, the measurements become NONE, the records are
unbound, the job is cleared and the phase IDLE. In a halt, with a cut under way, with a station clamped or without a job it
is answered INTERLOCK. -/
def Obligations.CloseJob : Prop :=
  ∀ (port : PortId) (tag : Byte) (s : State), PortReady port s → port ≠ .lathe →
    (s.job = none ∨ s.interlock.phase = .halted ∨ cutUnderWay s = true ∨ anyClamped s = true →
      exec (.closeJob port tag) s = .next (carriedOut port tag 0x11 (plainly .interlock) [] s))
    ∧ ∀ j, s.job = some j → s.interlock.phase ≠ .halted → s.interlock.causes.nonempty = false →
        cutUnderWay s = false → anyClamped s = false →
        (∃ r, findRecord j.position1.identity s.store = some r) →
        (∀ p, j.position2 = some p →
          p.identity ≠ j.position1.identity ∧ ∃ r, findRecord p.identity s.store = some r) →
        let unbind := fun (id : List Byte) (store : List AxleRecord) =>
          store.map fun x => if x.identity = id then { x with binding := Binding.none } else x
        let cutEnds := s.cut.state != .none
        exec (.closeJob port tag) s = .next
          (carriedOut port tag 0x11 (okWith (unsignedBytes 2 j.number))
            (onlyIf cutEnds [.cutState j.number s.cut.state .none none noReports ⟨none, none⟩] ++ phaseNotice s .idle
              ++ [.recordChanged j.position1.identity .bindingOnly]
              ++ (j.position2.toList.map fun p => .recordChanged p.identity .bindingOnly))
            { s with
              job := none, measurements := ⟨.reset, .reset⟩
              plan := if cutEnds then none else s.plan
              cut := if cutEnds then emptiedCut s.cut else s.cut
              slots := if cutEnds then unlocked s.slots else s.slots
              store := match j.position2 with
                | none => unbind j.position1.identity s.store
                | some p => unbind p.identity (unbind j.position1.identity s.store)
              interlock := heldPhase s .idle s.interlock.clamped })

/-! ## Template Table -/

/-- LOAD_TEMPLATE (R125, R126): an accepted template is one that R124 allows, it replaces what the slot held, and the slot's
lock stays clear; a bad index, a locked slot and the first fault of rows 3 to 8, with the index of its point, are refused with
nothing changed. -/
def Obligations.LoadTemplate : Prop :=
  ∀ (tag : Byte) (index : Nat) (t : TemplateFields) (s : State), PortReady .depot s →
    (7 < index →
      exec (.loadTemplate .depot tag index t) s = .next (carriedOut .depot tag 0x18 ⟨.form, [1]⟩ [] s))
    ∧ (index ≤ 7 → (slotAt s.slots index).locked = true →
      exec (.loadTemplate .depot tag index t) s = .next (carriedOut .depot tag 0x18 (plainly .inUse) [] s))
    ∧ (∀ fault, index ≤ 7 → (slotAt s.slots index).locked = false → templateFault s.config.yTap t = some fault →
      exec (.loadTemplate .depot tag index t) s = .next
        (carriedOut .depot tag 0x18 ⟨.form, oneByte fault.code ++ faultPoint fault⟩ [] s))
    ∧ (index ≤ 7 → (slotAt s.slots index).locked = false → templateFault s.config.yTap t = none →
      exec (.loadTemplate .depot tag index t) s = .next
        (carriedOut .depot tag 0x18
          (okWith (oneByte index ++ boolByte (slotAt s.slots index).template.isSome
            ++ boolByte (decide (s.config.ftMin ≤ t.ftNom)))) []
          { s with slots := s.slots.setIfInBounds index ⟨some ⟨t.name, t.ftNom, t.points⟩, false⟩ }))
    ∧ (∀ i, [TemplateFault.count, .name, .ftNom, .pointRange i, .order i, .taping].map (fun f => (f.code, faultPoint f))
        = [(2, []), (3, []), (4, []), (5, oneByte i), (6, oneByte i), (7, [])])
    ∧ (let counted := 3 ≤ t.count ∧ t.count ≤ 64 ∧ t.points.length = t.count
       let named := ∀ b ∈ t.name, 0x20 ≤ b.toNat ∧ b.toNat ≤ 0x7E
       let thick := 0 ≤ t.ftNom ∧ t.ftNom ≤ 160000
       let ranged := fun (p : TemplatePoint) => (0 ≤ p.y ∧ p.y ≤ 160000) ∧ (-100000 ≤ p.t ∧ p.t ≤ 100000)
       let faulty := fun (fault : TemplateFault) => templateFault s.config.yTap t = some fault
       (¬ counted → faulty .count) ∧ (counted → ¬ named → faulty .name) ∧ (counted → named → ¬ thick → faulty .ftNom)
       ∧ (counted → named → thick →
          (∀ pre p post, t.points = pre ++ p :: post → (∀ q ∈ pre, ranged q) → ¬ ranged p → faulty (.pointRange pre.length))
          ∧ ((∀ p ∈ t.points, ranged p) →
            (∀ pre a b post, t.points = pre ++ a :: b :: post → (pre ++ [a]).Pairwise (fun p q => p.y < q.y) → b.y ≤ a.y →
              faulty (.order (pre.length + 1)))
            ∧ (t.points.Pairwise (fun p q => p.y < q.y) → (¬ ∃ p ∈ t.points, p.y = s.config.yTap ∧ p.t = 0) →
              faulty .taping))))
    ∧ (templateFault s.config.yTap t = none ↔
        (3 ≤ t.count ∧ t.count ≤ 64 ∧ t.points.length = t.count
          ∧ (∀ b ∈ t.name, 0x20 ≤ b.toNat ∧ b.toNat ≤ 0x7E) ∧ 0 ≤ t.ftNom ∧ t.ftNom ≤ 160000
          ∧ (∀ p ∈ t.points, 0 ≤ p.y ∧ p.y ≤ 160000 ∧ -100000 ≤ p.t ∧ p.t ≤ 100000)
          ∧ t.points.Pairwise (fun a b => a.y < b.y)
          ∧ ∃ p ∈ t.points, p.y = s.config.yTap ∧ p.t = 0))

/-- LOAD_DISPOSITION (R132): while a plan stands PLANNED, RUNNING or SUSPENDED it is answered IN_USE, out of range FORM, with
the index of the first entry whose code is none of 0..7, 0xFE and 0xFF; otherwise it replaces the whole table, each code by the
template index, EXCHANGE or NO_ENTRY that it stands for. -/
def Obligations.LoadDisposition : Prop :=
  ∀ (tag : Byte) (d : DispositionFields) (s : State), PortReady .depot s →
    let standing := s.cut.state = .planned ∨ s.cut.state = .running ∨ s.cut.state = .suspended
    let ranged := (0 ≤ d.lower ∧ d.lower ≤ 160000) ∧ (100 ≤ d.width ∧ d.width ≤ 5000) ∧ (1 ≤ d.count ∧ d.count ≤ 32)
    let good := fun (code : Nat) => code ≤ 7 ∨ code = 0xFE ∨ code = 0xFF
    let entry := fun (code : Nat) =>
      if code = 0xFE then DispositionEntry.exchange else if code = 0xFF then .noEntry else .template code
    (standing → exec (.loadDisposition .depot tag d) s = .next (carriedOut .depot tag 0x1A (plainly .inUse) [] s))
    ∧ (¬ standing → ¬ ranged ∨ d.codes.length ≠ d.count →
      exec (.loadDisposition .depot tag d) s = .next (carriedOut .depot tag 0x1A (plainly .form) [] s))
    ∧ (∀ i code, ¬ standing → ranged → d.codes.length = d.count → d.codes[i]? = some code → ¬ good code →
      (∀ k earlier, k < i → d.codes[k]? = some earlier → good earlier) →
      exec (.loadDisposition .depot tag d) s = .next (carriedOut .depot tag 0x1A ⟨.form, oneByte i⟩ [] s))
    ∧ (¬ standing → ranged → d.codes.length = d.count → (∀ code ∈ d.codes, good code) →
      exec (.loadDisposition .depot tag d) s = .next
        (carriedOut .depot tag 0x1A (okWith (oneByte d.count)) []
          { s with disposition := ⟨some d.lower, some d.width, d.codes.map entry⟩ }))

/-- The disposition lookup (R133): below L, at or above L + n·W, or with no table the result is DEFAULT; in bin k it is what
entry k says. -/
def Obligations.DispositionLookup : Prop :=
  (∀ ft, dispositionLookup ⟨none, none, []⟩ ft = .default)
  ∧ ∀ (lower width ft : Int) (entries : List DispositionEntry), 0 < width →
      (ft < lower ∨ lower + entries.length * width ≤ ft → dispositionLookup ⟨some lower, some width, entries⟩ ft = .default)
      ∧ ∀ (k : Nat) (e : DispositionEntry), entries[k]? = some e → lower + k * width ≤ ft → ft < lower + (k + 1) * width →
          dispositionLookup ⟨some lower, some width, entries⟩ ft
            = match e with
              | .template i => .template i
              | .exchange => .exchange
              | .noEntry => .default

/-! ## Pit Interlock -/

/-- CLAMP_REQUEST (R5): granted in SUPPORTED or CLAMPED to an unclamped station whose position binds a record, it makes the
station CLAMPED, the phase CLAMPED and the permit asserted; otherwise it is answered ROLE, FORM or INTERLOCK. -/
def Obligations.ClampRequest : Prop :=
  ∀ (tag : Byte) (station : Nat) (s : State),
    (∀ port, port ≠ .lathe → PortReady port s →
      exec (.clampRequest port tag station) s = .next (carriedOut port tag 0x30 (plainly .role) [] s))
    ∧ (PortReady .lathe s → stationArg s station = none →
      exec (.clampRequest .lathe tag station) s = .next (carriedOut .lathe tag 0x30 (plainly .form) [] s))
    ∧ ∀ st, PortReady .lathe s → stationArg s station = some st →
        ((s.interlock.phase ≠ .supported ∧ s.interlock.phase ≠ .clamped) ∨ boundRecord s st = none
            ∨ stationClamped s st = true →
          exec (.clampRequest .lathe tag station) s = .next (carriedOut .lathe tag 0x30 (plainly .interlock) [] s))
        ∧ ((s.interlock.phase = .supported ∨ s.interlock.phase = .clamped) → (boundRecord s st).isSome = true →
            stationClamped s st = false → PhaseDerived s → StepsGuarded s →
          exec (.clampRequest .lathe tag station) s = .next
            (carriedOut .lathe tag 0x30 (plainly .ok) (phaseNotice s .clamped)
              { s with interlock := heldPhase s .clamped (s.interlock.clamped.set st true) }))

/-- UNCLAMP_REPORT (R6): FORM for a station that does not exist; for a clamped station the step in flight is aborted, the scan in
flight ends INVALID with reason CLAMP_LOST, the station becomes UNCLAMPED and the phase is re-derived; the notices are CUT_STATE,
SCAN_DONE, PHASE. The next step that CUT_STATE carries for the station it did not touch is log 19. -/
def Obligations.UnclampReport : Prop :=
  (∀ (s : State) (station : Nat) (st : Station), stationArg s station = some st ↔
    (station = 1 ∧ st = .one) ∨ (station = 2 ∧ st = .two ∧ s.straps.stationCount = .tandem))
  ∧ (∀ (tag : Byte) (station : Nat) (s : State), PortReady .lathe s → stationArg s station = none →
    exec (.unclampReport .lathe tag station) s = .next (carriedOut .lathe tag 0x31 (plainly .form) [] s))
  ∧ ∀ (tag : Byte) (station : Nat) (st : Station) (s : State), PortReady .lathe s → stationArg s station = some st →
    (stationClamped s st = false →
      exec (.unclampReport .lathe tag station) s = .next (carriedOut .lathe tag 0x31 (plainly .ok) [] s))
    ∧ (stationClamped s st = true →
      let stepLost := (stepInFlight s st).isSome
      let suspends := stepLost && s.cut.state == .running
      let cut : CutSequencer :=
        { s.cut with
          state := if suspends then .suspended else s.cut.state
          cause := if suspends then some .clampLost else s.cut.cause
          contexts := s.cut.contexts.set st (lostContext s st)
          timers := s.cut.timers.set st (lostTimer s st) }
      let measurement := earlyMeasurement s st .clampLost .clampLost
      let y : State :=
        { s with
          cut := cut
          scans := s.scans.set st (endedScan s st)
          measurements := s.measurements.set st measurement
          interlock := { s.interlock with clamped := s.interlock.clamped.set st false } }
      ∀ p, derivedPhase y = some p →
        exec (.unclampReport .lathe tag station) s = .next
          (carriedOut .lathe tag 0x31 (plainly .ok)
            (onlyIf stepLost
                [.cutState (jobNumber s) s.cut.state cut.state cut.cause (reportAt st (abortReport s st .clampLost))
                  (nextSteps cut)]
              ++ onlyIf (scanInFlight s st) [.scanDone st measurement] ++ phaseNotice s p)
            { y with interlock := heldPhase y p y.interlock.clamped }))

/-- The notices and the state of a halt (R11, R15), in every state, and the cause sets that it leaves (R11, R14). The next step
that CUT_STATE carries for a station that the halt did not touch is log 19. -/
def Obligations.HaltIsTakenWhole : Prop :=
  (∀ (cause : HaltCause) (s : State), halt cause s = postAll (haltNotices cause s) (haltEffect cause s))
  ∧ (∀ cause raised : HaltCause, ((CauseSet.only cause).has raised = true ↔ raised = cause))
  ∧ ∀ (c : CauseSet) (cause raised : HaltCause), (c.add cause).has raised = true ↔ c.has raised = true ∨ raised = cause

/-- The e-stop chain (R10): the assertion edge sets the latch; outside HALTED it stops a lift move at once and halts the pit
with cause ESTOP (R11, R15, R80), and in HALTED it adds the cause; the release edge clears the latch and nothing else. Under reset
no edge is taken (log 24); the next steps in the CUT_STATE of the halt are log 19. -/
def Obligations.EstopChain : Prop :=
  ∀ s : State, s.inReset = false →
    (s.interlock.phase ≠ .halted →
      let moving := moveInFlight s.lift.state
      let y : State :=
        { s with
          interlock := { s.interlock with estopLatch := true }
          lift := if moving then stoppedLift s.lift else s.lift }
      exec .estopAssertion s = .next
        (happened (onlyIf moving (liftEndNotices s.lift .stoppedShort none) ++ haltNotices .estop y)
          (haltEffect .estop y)))
    ∧ (s.interlock.phase = .halted →
      exec .estopAssertion s = .next
        (happened []
          { s with
            interlock := { s.interlock with estopLatch := true, causes := s.interlock.causes.add .estop } }))
    ∧ exec .estopRelease s = .next (happened [] { s with interlock := { s.interlock with estopLatch := false } })

/-- ACK_FAULT (R16, R17): outside HALTED it is answered OK with no effect; with the latch set, or a clamp over a jack outside
its window, INTERLOCK; otherwise the cause set empties, the lift rests in IDLE with each command at its measured position
without a pulse (R83), and the phase follows from R1. That a lift found in IDLE is set so as well is log 34. -/
def Obligations.AckFault : Prop :=
  ∀ (tag : Byte) (s : State), PortReady .console s →
    (s.interlock.phase ≠ .halted →
      exec (.ackFault .console tag) s = .next (carriedOut .console tag 0x32 (plainly .ok) [] s))
    ∧ (s.interlock.phase = .halted → (s.interlock.estopLatch = true ∨ (anyClamped s = true ∧ jackOutside s = true)) →
      exec (.ackFault .console tag) s = .next (carriedOut .console tag 0x32 (plainly .interlock) [] s))
    ∧ (s.interlock.phase = .halted → s.interlock.estopLatch = false → (anyClamped s = false ∨ jackOutside s = false) →
        anyStepInFlight s = false →
      let p : Phase :=
        if s.job = none then .idle
        else if jackOutside s then .staged
        else if anyClamped s then .clamped
        else .supported
      let held := heldPhase s p s.interlock.clamped
      exec (.ackFault .console tag) s = .next
        (carriedOut .console tag 0x32 (plainly .ok) [.phase .halted p]
          { s with
            interlock := { held with causes := .none }
            lift := { s.lift with
              state := .idle, working := none, stopping := false, speed := 0, remainder := 0, settleTimer := none
              brakesApplied := true, drivesEnabled := false
              axes := jacksMap
                (fun a => { a with
                  command := a.measured, accumulator := 1000 * a.measured, followingError := 0, target := none })
                s.lift.axes } }))

/-! ## Lift Sequencer -/

/-- LIFT_MOVE with the lift at rest (R65, R66): the move takes its copies, each jack its target, the brakes are released and
the lift starts in ACCEL or CREEP at FL; a common target equal to the level runs no profile and settles at once. -/
def Obligations.LiftMoveStarts : Prop :=
  ∀ (tag : Byte) (target : Int) (code : Nat) (moveClass : MoveClass) (s : State), PortReady .console s →
    moveClassOf code = some moveClass → withinStroke target = true → startRefusal s target = none →
    s.lift.stopping = false → moveInFlight s.lift.state = false → PhaseDerived s →
    let c := s.config
    let level := (jacksList (jacksZip (fun (a : Axis) trim => a.command - trim) s.lift.axes c.trims)).sum / 4
    let direction : Direction := if target < level then .down else .up
    let begin_ := fun (a : Axis) (trim : Int) =>
      { a with
        moveTrim := trim, target := some (target + trim), accumulator := 1000 * a.command, direction := direction }
    let snapped := fun (a : Axis) (trim : Int) =>
      { a with
        moveTrim := trim, target := some (target + trim), accumulator := 1000 * (target + trim)
        command := target + trim, pulses := a.pulses + (magnitude (target + trim - a.command)).toNat
        direction := if a.command < target + trim then .up else if target + trim < a.command then .down else direction }
    let started : Lift :=
      { s.lift with
        working := some ⟨target, moveClass⟩, direction := direction, brakesApplied := false, remainder := 0
        copies := ⟨c.fl, c.fh, c.acceleration, c.rampOffset, c.tiltLimit, c.followLimit, c.window, c.settleTime⟩ }
    let lift : Lift :=
      if target = level then
        { started with
          axes := jacksZip snapped s.lift.axes c.trims, state := .settle, speed := 0
          settleTimer := some c.settleTime.toNat, drivesEnabled := true }
      else
        { started with
          axes := jacksZip begin_ s.lift.axes c.trims, speed := c.fl, settleTimer := none
          state := match moveClass with
            | .normal => .accel
            | .creep => .creep }
    let p : Phase := if s.job = none then .idle else .staged
    exec (.liftMove .console tag target code) s = .next
      (carriedOut .console tag 0x38
        (okWith (oneByte 0 ++ (jacksList c.trims).flatMap fun trim => lengthBytes (target + trim)))
        (phaseNotice s p) { s with lift := lift, interlock := heldPhase s p s.interlock.clamped })

/-- LIFT_MOVE while a move is in flight (R65, R67): with the staged slot empty the move is staged and nothing else changes;
with it full the answer is FULL, and while the working move is stopping BUSY. The refusals of rows 1 to 4 of R65 change
nothing. -/
def Obligations.LiftMoveNotStarted : Prop :=
  (∀ (tag : Byte) (target : Int) (code : Nat) (moveClass : MoveClass) (s : State), PortReady .console s →
    moveClassOf code = some moveClass → withinStroke target = true → startRefusal s target = none →
    (s.lift.stopping = true →
      exec (.liftMove .console tag target code) s = .next (carriedOut .console tag 0x38 (plainly .busy) [] s))
    ∧ (s.lift.stopping = false → moveInFlight s.lift.state = true → s.lift.staged.isSome = true →
      exec (.liftMove .console tag target code) s = .next (carriedOut .console tag 0x38 (plainly .full) [] s))
    ∧ (s.lift.stopping = false → moveInFlight s.lift.state = true → s.lift.staged = none →
      exec (.liftMove .console tag target code) s = .next
        (carriedOut .console tag 0x38
          (okWith (oneByte 1 ++ (jacksList s.config.trims).flatMap fun trim => lengthBytes (target + trim))) []
          { s with lift := { s.lift with staged := some ⟨target, moveClass⟩ } })))
  ∧ ∀ (tag : Byte) (target : Int) (code : Nat) (s : State), PortReady .console s →
    (2 ≤ code ∨ target < 0 ∨ 1500000 < target →
      exec (.liftMove .console tag target code) s = .next (carriedOut .console tag 0x38 (plainly .form) [] s))
    ∧ (code ≤ 1 → 0 ≤ target → target ≤ 1500000 →
      let reached := fun (trim : Int) => 0 ≤ target + trim ∧ target + trim ≤ 1500000
      ((∃ trim ∈ jacksList s.config.trims, ¬ reached trim) →
        exec (.liftMove .console tag target code) s = .next (carriedOut .console tag 0x38 (plainly .form) [] s))
      ∧ ((∀ trim ∈ jacksList s.config.trims, reached trim) →
          (s.interlock.phase = .clamped ∨ s.interlock.phase = .cutting ∨ s.interlock.phase = .halted
            ∨ s.config.tiltLimit < configuredSpread s) →
        exec (.liftMove .console tag target code) s = .next (carriedOut .console tag 0x38 (plainly .interlock) [] s)))

/-- LIFT_STOP at rest changes nothing (R81); LIFT_STOP(DECEL) in ACCEL, RUN or DECEL makes the working move a stopping move in
DECEL and drops the staged move (R79); LIFT_STOP(IMMEDIATE), and LIFT_STOP(DECEL) in CREEP or SETTLE, end the move at once
(R80, R81). -/
def Obligations.LiftStops : Prop :=
  ∀ (tag : Byte) (s : State), PortReady .console s →
    let stop := fun (immediate : Bool) => if immediate then exec (.liftStopImmediate .console tag) s
      else exec (.liftStopDecel .console tag) s
    (∀ immediate, moveInFlight s.lift.state = false →
      stop immediate = .next (carriedOut .console tag 0x39 (plainly .ok) [] s))
    ∧ (s.lift.state = .accel ∨ s.lift.state = .run ∨ s.lift.state = .decel → PhaseDerived s → PermitsFollow s →
      stop false = .next
        (carriedOut .console tag 0x39 (plainly .ok)
          (s.lift.staged.toList.map fun m =>
            .liftDone .stagedDropped m none (commands s.lift) (measuredPositions s.lift))
          { s with lift := { s.lift with state := .decel, stopping := true, staged := none } }))
    ∧ ∀ immediate p, moveInFlight s.lift.state = true →
        (immediate = true ∨ s.lift.state = .creep ∨ s.lift.state = .settle) →
        derivedPhase { s with lift := stoppedLift s.lift } = some p →
        stop immediate = .next
          (carriedOut .console tag 0x39 (plainly .ok) (liftEndNotices s.lift .stoppedShort none ++ phaseNotice s p)
            { s with lift := stoppedLift s.lift, interlock := heldPhase s p s.interlock.clamped })

/-- A profile update that runs on (R70 to R74): the speed follows the state, the ramp-down test of R72 decides DECEL, and each
jack's accumulator moves by the speed, held at its own target, or stands where its target lies on the other side. -/
def Obligations.ProfileUpdateRunsOn : Prop :=
  ∀ s : State, s.inReset = false → takesUpdates s.lift.state = true → PhaseDerived s → PermitsFollow s →
    let l := s.lift
    let k := l.copies
    let sum := l.remainder + k.acceleration
    let full := l.state = .accel ∧ k.fh ≤ l.speed + sum / 1000
    let v : Int :=
      match l.state with
      | .accel => if full then k.fh else l.speed + sum / 1000
      | .run => k.fh
      | .decel => maxInt (l.speed - sum / 1000) k.fl
      | _ => k.fl
    let left :=
      match l.direction with
      | .up => l.axes.j1.target.getD l.axes.j1.command - l.axes.j1.command
      | .down => l.axes.j1.command - l.axes.j1.target.getD l.axes.j1.command
    let threshold := maxInt 0 ((v * v - k.fl * k.fl) / (2 * k.acceleration) + k.rampOffset)
    let turns := (l.state = .accel ∨ l.state = .run) ∧ left ≤ threshold
    let state : LiftState :=
      if turns then .decel
      else if full then .run
      else if l.state = .decel ∧ v = k.fl then .creep
      else l.state
    let remainder : Int :=
      if turns ∨ full then 0
      else if l.state = .accel ∨ l.state = .decel then sum % 1000
      else l.remainder
    let advance := fun (a : Axis) =>
      let goal := 1000 * a.target.getD a.command
      let moved :=
        match l.direction with
        | .up => if goal < a.accumulator then a.accumulator else minInt (a.accumulator + v) goal
        | .down => if a.accumulator < goal then a.accumulator else maxInt (a.accumulator - v) goal
      { a with
        accumulator := moved, command := moved / 1000
        pulses := a.pulses + (magnitude (moved / 1000 - a.command)).toNat }
    ¬ (l.stopping = true ∧ l.state = .decel ∧ v = k.fl) → 0 < left →
    (advance l.axes.j1).accumulator ≠ 1000 * l.axes.j1.target.getD l.axes.j1.command →
    exec .profileUpdate s = .next
      (happened []
        { s with
          lift := { l with
            drivesEnabled := true, speed := v, remainder := remainder, state := state
            axes := jacksMap advance l.axes } })

/-- A profile update that ends the profile (R70, R71): J1's distance found used up, or J1's accumulator brought to 1,000 times its
target in the position step, sets every command to its own target with the pulses of the change, and the lift settles. A stopping
move ends at FL (R79). Outside ACCEL, RUN, DECEL and CREEP no update is taken (R64). The pulse counter is the model's own field
(log 15), the speed 0 of a stopped move its reading (log 17), and so is J1 held at its target in the position step (log 39). -/
def Obligations.ProfileUpdateEnds : Prop :=
  ∀ s : State, s.inReset = false →
    let l := s.lift
    let k := l.copies
    let gained := (l.remainder + k.acceleration) / 1000
    let v : Int :=
      match l.state with
      | .accel => minInt (l.speed + gained) k.fh
      | .run => k.fh
      | .decel => maxInt (l.speed - gained) k.fl
      | _ => k.fl
    let j1 := l.axes.j1
    let left :=
      match l.direction with
      | .up => j1.target.getD j1.command - j1.command
      | .down => j1.command - j1.target.getD j1.command
    let moved := fun (a : Axis) =>
      let goal := 1000 * a.target.getD a.command
      match l.direction with
      | .up => if goal < a.accumulator then a.accumulator else minInt (a.accumulator + v) goal
      | .down => if a.accumulator < goal then a.accumulator else maxInt (a.accumulator - v) goal
    let advanced := fun (a : Axis) =>
      { a with
        accumulator := moved a, command := moved a / 1000
        pulses := a.pulses + (magnitude (moved a / 1000 - a.command)).toNat }
    let snapped := fun (a : Axis) =>
      match a.target with
      | none => a
      | some t => { a with
          command := t, accumulator := 1000 * t, pulses := a.pulses + (magnitude (t - a.command)).toNat
          direction := if a.command < t then .up else if t < a.command then .down else a.direction }
    let settles := fun (axes : Jacks Axis) =>
      exec .profileUpdate s = .next
        (happened []
          { s with
            lift := { l with
              drivesEnabled := true, state := .settle, speed := 0, remainder := 0
              settleTimer := some k.settleTime.toNat, axes := axes } })
    (takesUpdates l.state = false → exec .profileUpdate s = .next (happened [] s))
    ∧ (takesUpdates l.state = true → ¬ (l.stopping = true ∧ l.state = .decel ∧ v = k.fl) → PhaseDerived s →
        PermitsFollow s →
        (left ≤ 0 → settles (jacksMap snapped l.axes))
        ∧ (0 < left → moved j1 = 1000 * j1.target.getD j1.command →
            settles (jacksMap (fun a => snapped (advanced a)) l.axes)))
    ∧ ∀ p, l.state = .decel → l.stopping = true → l.speed - gained ≤ k.fl →
        derivedPhase { s with lift := stoppedLift l } = some p →
        exec .profileUpdate s = .next
          (happened (liftEndNotices l .stoppedShort none ++ phaseNotice s p)
            { s with lift := stoppedLift l, interlock := heldPhase s p s.interlock.clamped })

/-- A jack sample (R61, R75 to R77) that finds nothing sets the measured positions and following errors; where a jack crosses
its support window the phase is re-derived (R3), and where no phase is derived, because support is lost under a clamp, the pit
halts with cause SUPPORT (R4). A spread over the move's limit raises TILT and names the jacks with the highest and the lowest
value (R76; naming every tied jack is the model's choice, log 12); otherwise a following error over the limit raises FOLLOW
and names the first such jack (R75, R82). The spread that the notice carries is log 13, and that FAULT has no working move is
log 33. -/
def Obligations.JackSampleChecks : Prop :=
  (∀ before now : State, windowChanged before now = true ↔
    ∃ j, now.job = some j ∧ supportWindows before j.supportHeight ≠ supportWindows now j.supportHeight)
  ∧ (∀ (readings : Jacks Int) (s : State), s.inReset = false →
    let l : Lift :=
      { s.lift with
        axes := jacksZip (fun (a : Axis) r => { a with measured := r, followingError := a.command - r }) s.lift.axes
          readings }
    let x : State := { s with lift := l }
    tilted l = false → (l.state = .fault ∨ jacksAny id (laggingJacks x) = false) → settleTest l = false →
    (windowChanged s x = false → exec (.jackSample readings) s = .next (happened [] x))
    ∧ (windowChanged s x = true → derivedPhase x = none →
        exec (.jackSample readings) s = .next (happened (haltNotices .support x) (haltEffect .support x)))
    ∧ ∀ p, windowChanged s x = true → derivedPhase x = some p →
        exec (.jackSample readings) s = .next
          (happened (phaseNotice s p) { x with interlock := heldPhase x p x.interlock.clamped }))
  ∧ ∀ (readings : Jacks Int) (s : State), s.inReset = false →
    let l : Lift :=
      { s.lift with
        axes := jacksZip (fun (a : Axis) r => { a with measured := r, followingError := a.command - r }) s.lift.axes
          readings }
    let x : State := { s with lift := l }
    let values := jacksZip (fun (a : Axis) r => r - a.moveTrim) s.lift.axes readings
    let limit := if moveInFlight l.state then l.copies.followLimit else s.config.followLimit
    let lags := jacksZip (fun (a : Axis) r => decide (limit < magnitude (a.command - r))) s.lift.axes readings
    (moveInFlight l.state = true → l.copies.tiltLimit < jacksMax values - jacksMin values →
      exec (.jackSample readings) s = .next
        (happened
          (faultNotices .tilt (jacksMap (fun v => v == jacksMax values || v == jacksMin values) values) x)
          (faultEffect .tilt x)))
    ∧ ∀ named, (moveInFlight l.state = false ∨ jacksMax values - jacksMin values ≤ l.copies.tiltLimit) →
        l.state ≠ .fault → lags ≠ ⟨false, false, false, false⟩ →
        named = (if lags.j1 then ⟨true, false, false, false⟩
          else if lags.j2 then ⟨false, true, false, false⟩
          else if lags.j3 then ⟨false, false, true, false⟩
          else ⟨false, false, false, true⟩ : Jacks Bool) →
        exec (.jackSample readings) s = .next (happened (faultNotices .follow named x) (faultEffect .follow x))

/-- The sample that ends a move (R77, R68): with no staged move the lift becomes IDLE; a staged move that is admitted starts
at the same event, without IDLE and with the brakes and drives as they were; one that is refused at the shift is dropped with
its LIFT_DONE, and the lift becomes IDLE. -/
def Obligations.SettlingJackSample : Prop :=
  ∀ (readings : Jacks Int) (working : Move) (s : State), s.inReset = false →
    let l : Lift :=
      { s.lift with
        axes := jacksZip (fun (a : Axis) r => { a with measured := r, followingError := a.command - r }) s.lift.axes
          readings }
    let x : State := { s with lift := l }
    let reached : NoticeBody := .liftDone .reached working none (commands l) (measuredPositions l)
    let ended : Lift := { clearTargets l with settleTimer := none }
    s.lift.state = .settle → s.lift.working = some working → tilted l = false →
    jacksAny id (laggingJacks x) = false →
    (∀ a ∈ jacksList l.axes, magnitude (a.measured - a.target.getD a.measured) ≤ l.copies.window) →
    (∀ p, s.lift.staged = none → derivedPhase { s with lift := stoppedLift l } = some p →
      exec (.jackSample readings) s = .next
        (happened ([reached] ++ phaseNotice s p)
          { s with lift := stoppedLift l, interlock := heldPhase s p s.interlock.clamped }))
    ∧ (∀ next refusal p, s.lift.staged = some next → startRefusal { s with lift := ended } next.target = some refusal →
        derivedPhase { s with lift := stoppedLift l } = some p →
        exec (.jackSample readings) s = .next
          (happened
            ([reached, .liftDone .stagedDropped next none (commands l) (measuredPositions l)] ++ phaseNotice s p)
            { s with lift := stoppedLift l, interlock := heldPhase s p s.interlock.clamped }))
    ∧ ∀ next p, s.lift.staged = some next → startRefusal { s with lift := ended } next.target = none →
        derivedPhase { s with lift := startedLift s.config next { ended with staged := none } } = some p →
        exec (.jackSample readings) s = .next
          (happened ([reached] ++ phaseNotice s p)
            { s with
              lift := startedLift s.config next { ended with staged := none }
              interlock := heldPhase s p s.interlock.clamped })

/-- The settle timer (R78): its expiry in SETTLE raises a lift fault of cause SETTLE that names the first jack outside its
window; a stopped timer does not expire (log 20). A fault that finds every jack inside its window names none (log 14), and FAULT
has no working move (log 33). -/
def Obligations.SettleTimerExpiry : Prop :=
  ∀ s : State, s.inReset = false →
    (s.lift.settleTimer = none ∨ s.lift.state ≠ .settle → exec .settleTimerExpiry s = .next (happened [] s))
    ∧ (s.lift.settleTimer.isSome = true → s.lift.state = .settle →
      let outside := jacksMap
        (fun a => decide (s.lift.copies.window < magnitude (a.measured - a.target.getD a.measured))) s.lift.axes
      exec .settleTimerExpiry s = .next
        (happened (faultNotices .settle (firstJack outside) s) (faultEffect .settle s)))

/-! ## Scan Unit -/

/-- START_MEASURE (R90 to R92): admitted, it empties the station's scan, starts its timer, makes the measurement SCANNING and
discards a PLANNED plan with its locks; otherwise it is answered FORM, INTERLOCK or BUSY with no effect. -/
def Obligations.StartMeasure : Prop :=
  ∀ (tag : Byte) (station : Nat) (s : State), PortReady .lathe s →
    let answered := fun r => exec (.startMeasure .lathe tag station) s = .next (carriedOut .lathe tag 0x40 (plainly r) [] s)
    (stationArg s station = none → answered .form)
    ∧ ∀ st, stationArg s station = some st →
      let busy := scanInFlight s st = true ∨ (stepInFlight s st).isSome = true
        ∨ ((s.cut.state = .running ∨ s.cut.state = .suspended) ∧ planIncludes s st = true
          ∧ (s.cut.contexts.get st).axleDone = false)
      (¬ WorkAdmitted s st → answered .interlock)
      ∧ (WorkAdmitted s st → busy → answered .busy)
      ∧ (WorkAdmitted s st → ¬ busy →
          let discards := s.cut.state == .planned
          exec (.startMeasure .lathe tag station) s = .next
            (carriedOut .lathe tag 0x40 (okWith (oneByte station ++ unsignedBytes 4 s.config.scanTime))
              (onlyIf discards [.cutState (jobNumber s) .planned .none none noReports ⟨none, none⟩])
              { s with
                plan := if discards then none else s.plan
                cut := if discards then emptiedCut s.cut else s.cut
                slots := if discards then unlocked s.slots else s.slots
                scans := s.scans.set st
                  ⟨.collecting, ⟨⟨[], 0, false, false, []⟩, ⟨[], 0, false, false, []⟩⟩, some s.config.scanTime,
                    some s.config.scanTime.toNat⟩
                measurements := s.measurements.set st
                  { Measurement.reset with
                    state := .scanning, agreeTol := some s.config.agreeTol, verifyTol := some s.config.verifyTol
                    verifyDue := (s.measurements.get st).verifyDue
                    verifyTarget := (s.measurements.get st).verifyTarget } }))

/-- A gauge point (R93 to R95): not taken without a scan in flight or after its end marker; out of range or out of order it
counts as disorder, held at 65,535; in a full list it sets TRUNCATED; otherwise it is kept as (y, R_ref + z). -/
def Obligations.GaugePoint : Prop :=
  ∀ (c : Channel) (y z : Int) (s : State), s.inReset = false →
    let scan := s.scans.get c.station
    let side := scan.sides.get c.side
    let put := fun (x : ScanSide) =>
      { s with scans := s.scans.set c.station { scan with sides := scan.sides.set c.side x } }
    let ranged := (0 ≤ y ∧ y ≤ 160000) ∧ (-250000 ≤ z ∧ z ≤ 250000)
    let ordered := ∀ p, side.points.getLast? = some p → p.y < y
    (scanInFlight s c.station = false ∨ side.endMarker = true → exec (.gaugePoint c y z) s = .next (happened [] s))
    ∧ (scanInFlight s c.station = true → side.endMarker = false →
      (¬ (ranged ∧ ordered) →
        exec (.gaugePoint c y z) s = .next
          (happened []
            (put { side with disorder := if side.disorder < 65535 then side.disorder + 1 else side.disorder })))
      ∧ (ranged → ordered → side.points.length < 512 →
        exec (.gaugePoint c y z) s = .next
          (happened []
            (put
              { side with points := side.points ++ [⟨y, (s.config.refRadius.get c.station).get c.side + z⟩] })))
      ∧ (ranged → ordered → 512 ≤ side.points.length →
        exec (.gaugePoint c y z) s = .next (happened [] (put { side with truncated := true }))))

/-- End markers (R96), wheel-index edges (R97) and roller counts (R89). The event that gives a scan the last of its parts ends
it (R98); what that does is `ScanEnds`. -/
def Obligations.MarkersAndCaptures : Prop :=
  ∀ s : State, s.inReset = false →
    let whole := fun (x : Scan) => x.sides.l.endMarker = true ∧ x.sides.r.endMarker = true
      ∧ x.sides.l.captures.length = 5 ∧ x.sides.r.captures.length = 5
    (∀ c : Channel,
      let scan := s.scans.get c.station
      let side := scan.sides.get c.side
      let marked : Scan := { scan with sides := scan.sides.set c.side { side with endMarker := true } }
      let y : State := { s with scans := s.scans.set c.station marked }
      (scanInFlight s c.station = false ∨ side.endMarker = true → exec (.endMarker c) s = .next (happened [] s))
      ∧ (scanInFlight s c.station = true → side.endMarker = false →
        (¬ whole marked → exec (.endMarker c) s = .next (happened [] y))
        ∧ (whole marked → exec (.endMarker c) s = .next (startTransmitters (finishScan c.station y)))))
    ∧ (∀ st : Station,
      let scan := s.scans.get st
      let counts := s.rollers.get st
      let captured : Scan :=
        { scan with
          sides :=
            ⟨{ scan.sides.l with captures := scan.sides.l.captures ++ [counts.l] },
             { scan.sides.r with captures := scan.sides.r.captures ++ [counts.r] }⟩ }
      let y : State := { s with scans := s.scans.set st captured }
      let room := scan.sides.l.captures.length < 5 ∧ scan.sides.r.captures.length < 5
      (scanInFlight s st = false ∨ ¬ room → exec (.wheelIndexEdge st) s = .next (happened [] s))
      ∧ (scanInFlight s st = true → room →
        (¬ whole captured → exec (.wheelIndexEdge st) s = .next (happened [] y))
        ∧ (whole captured → exec (.wheelIndexEdge st) s = .next (startTransmitters (finishScan st y)))))
    ∧ ∀ c : Channel,
      let counts := s.rollers.get c.station
      (stationExists s c.station = false → exec (.rollerCount c) s = .next (happened [] s))
      ∧ (stationExists s c.station = true →
        exec (.rollerCount c) s = .next
          (happened []
            { s with rollers := s.rollers.set c.station (counts.set c.side (counts.get c.side + 1)) }))

/-- The end of a scan: completed (R98, R116 to R118), with the measurement as decided, SCAN_DONE, and for a VALID one the
event of an ordinary measurement (its record is that of `WearRate`) or of a verification, which appends VERIFIED and clears
REMEASURE, or VERIFY_FAIL with the record ends of the failed wheels, and leaves it (R43, R49); the ring that an append gives
(R32); or by its timer (R99), INVALID with reason TIMEOUT. The SCAN_DONE of a verification still carries verification due and
its target (log 38). -/
def Obligations.ScanEnds : Prop :=
  (∀ (st : Station) (s : State),
    let m := completedMeasurement s st
    let ended : State :=
      { s with
        scans := s.scans.set st { s.scans.get st with state := .idle, timer := none }
        measurements := s.measurements.set st m }
    (m.state ≠ .valid → finishScan st s = postAll [.scanDone st m] ended)
    ∧ ∀ j p, m.state = .valid → s.job = some j → jobPosition s st = some p →
      let diameters : Sides Int := ⟨2 * m.wheels.l.rTap.getD 0, 2 * m.wheels.r.rTap.getD 0⟩
      let thickness : Sides Int := ⟨m.wheels.l.ft.getD 0, m.wheels.r.ft.getD 0⟩
      (m.verifyDue = false →
        let change := measureRecord j p.orientation diameters thickness s.config.wearAlertRate
        let changes := fun (before after : AxleRecord) =>
          ({ ChangeSet.none with
              history := true, wear := before.wear != after.wear
              flags := before.wearAlert != after.wearAlert || before.remeasure != after.remeasure } : ChangeSet)
        finishScan st s = postAll ([.scanDone st m] ++ changeNotice s st change changes)
          { ended with store := changedStore s st change s.store })
      ∧ (m.verifyDue = true →
        let target := m.verifyTarget.getD 0
        let tolerance := m.verifyTol.getD 0
        let good := fun (w : Wheel) => decide (magnitude (w.rTap.getD 0 - target) ≤ tolerance)
        let failed : Sides Bool := ⟨!good m.wheels.l, !good m.wheels.r⟩
        let ends : Sides Bool :=
          match p.orientation with
          | .aOnL => failed
          | .aOnR => ⟨failed.r, failed.l⟩
        let measured : Sides Int :=
          match p.orientation with
          | .aOnL => diameters
          | .aOnR => ⟨diameters.r, diameters.l⟩
        let change := fun (r : AxleRecord) =>
          if failed = ⟨false, false⟩ then
            { r with
              history := ringAppend r.history ⟨.verified, j.number, j.odometer, measured.l, measured.r⟩
              dirty := true, remeasure := false }
          else
            { r with
              history := ringAppend r.history ⟨.verifyFail ends.l ends.r, j.number, j.odometer, measured.l, measured.r⟩
              dirty := true }
        let changes := fun (before after : AxleRecord) =>
          ({ ChangeSet.none with history := true, flags := before.remeasure != after.remeasure } : ChangeSet)
        m.verifyOutcome = (if failed = ⟨false, false⟩ then .verified else .verifyFail failed.l failed.r)
        ∧ finishScan st s = postAll ([.scanDone st m] ++ changeNotice s st change changes)
            { ended with
              store := changedStore s st change s.store
              measurements := s.measurements.set st { m with verifyDue := false, verifyTarget := none } }))
  ∧ (∀ (h : List HistoryEvent) (oldest e : HistoryEvent),
      (h.length < 12 → ringAppend h e = h ++ [e]) ∧ (h.length = 11 → ringAppend (oldest :: h) e = h ++ [e]))
  ∧ (∀ (α : Type) (v : Sides α), endA .aOnL v = v.l ∧ endB .aOnL v = v.r ∧ endA .aOnR v = v.r ∧ endB .aOnR v = v.l)
  ∧ ∀ (st : Station) (s : State), s.inReset = false →
      (scanInFlight s st = false ∨ (s.scans.get st).timer = none →
        exec (.scanTimerExpiry st) s = .next (happened [] s))
      ∧ (scanInFlight s st = true → (s.scans.get st).timer.isSome = true →
        let m := earlyMeasurement s st .timeout .timeout
        exec (.scanTimerExpiry st) s = .next
          (happened [.scanDone st m]
            { s with
              scans := s.scans.set st { s.scans.get st with state := .idle, timer := none }
              measurements := s.measurements.set st m }))

/-! ## Measurement Unit -/

/-- The wheel figures of a completed scan (R107 to R114): taping radius, the first pair that falls through a level, and every
outcome of a wheel with the figures it had reached; and the state that they decide (R115). -/
def Obligations.WheelFigures : Prop :=
  (∀ (yTap : Int) (pts : List Point), pts.Pairwise (fun a b => a.y < b.y) →
    (∀ p ∈ pts, p.y = yTap → tapingRadius yTap pts = some p.r)
    ∧ ∀ pre a b post, pts = pre ++ a :: b :: post → a.y < yTap → yTap < b.y →
        let d := b.y - a.y
        let n := a.r * d + (b.r - a.r) * (yTap - a.y)
        tapingRadius yTap pts = some ((2 * n + d) / (2 * d)))
  ∧ (∀ (level : Int) (pts : List Point),
    let falls := fun (k : Nat) => ∃ a b, pts[k]? = some a ∧ pts[k + 1]? = some b ∧ level ≤ a.r ∧ b.r < level
    (∀ k a b, pts[k]? = some a → pts[k + 1]? = some b → level ≤ a.r → b.r < level → (∀ earlier, earlier < k → ¬ falls earlier) →
      let d := a.r - b.r
      let n := a.y * d + (b.y - a.y) * (a.r - level)
      crossing level pts = some ((2 * n + d) / (2 * d)))
    ∧ ((∀ k, ¬ falls k) → crossing level pts = none))
  ∧ (∀ (i : WheelInputs) (sd : ScanSide), sd.points.Pairwise (fun a b => a.y < b.y) →
    let kept : Wheel :=
      { Wheel.reset with pointsKept := sd.points.length, disorder := sd.disorder, truncated := sd.truncated }
    let gives := fun (w : Wheel) => computeWheel i sd = w
    (8 < sd.disorder → gives { kept with outcome := .disorder })
    ∧ (sd.disorder ≤ 8 →
        (sd.points.head?.all (fun p => i.yTap < p.y) = true ∨ sd.points.getLast?.all (fun p => p.y < i.yTap) = true) →
        gives { kept with outcome := .range })
    ∧ ∀ rTap, sd.disorder ≤ 8 → tapingRadius i.yTap sd.points = some rTap →
        let taped : Wheel := { kept with rTap := some rTap }
        ((∀ p ∈ sd.points, i.yTap ≤ p.y) → gives { taped with outcome := .noFlange })
        ∧ ∀ k tip, sd.points[k]? = some tip → tip.y < i.yTap → (∀ p ∈ sd.points, p.y < i.yTap → p.r ≤ tip.r) →
            (∀ earlier p, earlier < k → sd.points[earlier]? = some p → p.r < tip.r) →
            let tipped : Wheel := { taped with tip := some ⟨k, tip.y, tip.r, tip.r - rTap⟩ }
            let outward := sd.points.drop k
            (crossing (rTap + i.hRef) outward = none → gives { tipped with outcome := .noFace })
            ∧ ∀ face, crossing (rTap + i.hRef) outward = some face →
                (crossing (tip.r - i.qrOffset) outward = none → gives { tipped with ft := some face, outcome := .noFace })
                ∧ ∀ tip2, crossing (tip.r - i.qrOffset) outward = some tip2 →
                    let span := (sd.captures.getD 4 0 - sd.captures.getD 0 0).toNat
                    let turns := 4 * i.counts
                    let dRoll := minInt 4294967295 ((2 * (i.rollerDia * span) + turns) / (2 * turns))
                    let difference := magnitude (2 * rTap - dRoll)
                    gives
                      { tipped with
                        ft := some face, slope := some ⟨tip2, face - tip2⟩, span := some span, dRoll := some dRoll
                        difference := some difference
                        outcome := if i.agreeTol < difference then .agreement else .pass })
  ∧ [WheelOutcome.disorder, .range, .noFlange, .noFace, .agreement].map wheelReason
      = [some .disorder, some .range, some .noFlange, some .noFace, some .agreement]
  ∧ ∀ (s : State) (st : Station),
      let m := completedMeasurement s st
      let left := m.wheels.l.outcome
      let right := m.wheels.r.outcome
      let c := s.config
      let tolerance := (s.measurements.get st).agreeTol.getD 0
      let wheel := fun (sd : Side) =>
        computeWheel
          ⟨c.yTap, c.hRef, c.qrOffset, (c.rollerDia.get st).get sd, (c.rollerCounts.get st).get sd, tolerance⟩
          ((s.scans.get st).sides.get sd)
      m = { s.measurements.get st with
            state := m.state, endCause := some .complete, reason := m.reason, reasonWheel := m.reasonWheel
            verifyOutcome := m.verifyOutcome, wheels := ⟨wheel .l, wheel .r⟩ }
      ∧ (left = .pass → right = .pass → m.state = .valid ∧ m.reason = none ∧ m.reasonWheel = none)
      ∧ (left ≠ .pass → m.reason = wheelReason left ∧ m.reasonWheel = some .l
          ∧ m.state = if left = .agreement then .disagree else .invalid)
      ∧ (left = .pass → right ≠ .pass → m.reason = wheelReason right ∧ m.reasonWheel = some .r
          ∧ m.state = if right = .agreement then .disagree else .invalid)

/-! ## Planner -/

/-- The template zone, the template offset rounded up (R146), the coverage of a zone (R147) and the fit radii (R148): a template
is evaluated for an axle exactly where both lists cover its zone, and each wheel's radius is the highest one on the 25 µm grid
at which the template stands at least the clean-up depth below every zone sample. -/
def Obligations.FittedTemplateLeavesCleanUp : Prop :=
  (∀ (ps : List TemplatePoint) (first last : TemplatePoint), ps.head? = some first → ps.getLast? = some last →
    zoneOf ps = some (first.y, last.y))
  ∧ (∀ ps : List TemplatePoint, ps.Pairwise (fun p q => p.y < q.y) →
    (∀ p ∈ ps, offsetAt p.y ps = p.t)
    ∧ ∀ pre p q post y, ps = pre ++ p :: q :: post → p.y < y → y < q.y →
        let d := q.y - p.y
        let exact := p.t * d + (q.t - p.t) * (y - p.y)
        exact ≤ offsetAt y ps * d ∧ offsetAt y ps * d < exact + d)
  ∧ (∀ (zone : Int × Int) (points : List Point),
    let inside := fun (p : Point) => zone.1 ≤ p.y ∧ p.y ≤ zone.2
    (covers zone points = true ↔
      (∃ first, points.head? = some first ∧ first.y ≤ zone.1 + 2000)
      ∧ (∃ last, points.getLast? = some last ∧ zone.2 - 2000 ≤ last.y)
      ∧ ∀ pre a b post, points = pre ++ a :: b :: post → inside a ∨ inside b → b.y - a.y ≤ 3000))
  ∧ ∀ (c : Int) (t : Template) (zone : Int × Int) (rTap : Sides Int) (points : Sides (List Point)),
    zoneOf t.points = some zone →
    (covers zone points.l = false → evaluateTemplate c t rTap points = .notEvaluable .l)
    ∧ (covers zone points.l = true → covers zone points.r = false →
        evaluateTemplate c t rTap points = .notEvaluable .r)
    ∧ (covers zone points.l = true → covers zone points.r = true →
        ∃ radius : Sides Int,
          evaluateTemplate c t rTap points = .evaluated radius.l radius.r (minInt radius.l radius.r)
          ∧ ∀ sd,
              let clear := fun (x : Int) => x + c ≤ rTap.get sd
                ∧ ∀ p ∈ points.get sd, zone.1 ≤ p.y → p.y ≤ zone.2 → x + offsetAt p.y t.points + c ≤ p.r
              radius.get sd % 25 = 0 ∧ clear (radius.get sd)
                ∧ ∀ x, x % 25 = 0 → clear x → x ≤ radius.get sd)

/-- The maximum removals and the step count (R150): the largest of the removals at the zone samples, and the larger rough
count plus 1. The step list (R153, R154): n steps, the last one FINISH; each wheel's depths as R153 shares them, adding up to
its maximum removal; targets that never rise and end at R_final. -/
def Obligations.StepList : Prop :=
  (∀ (s : State) (st : Station) (r : PositionRecord),
    let rFinal := r.rFinal.getD (r.ownRadius.getD 0)
    let m := removalsAt s st r rFinal
    let n := stepCountOf s.config.finishDepth s.config.maxRough m
    withSteps s st r
      = { r with
          rFinal := some rFinal, maxRemoval := some m, stepCount := some n
          tapingDepth := some ⟨(measuredRadii s st).l - rFinal, (measuredRadii s st).r - rFinal⟩
          steps := makeSteps rFinal s.config.finishDepth m n })
  ∧ (∀ (s : State) (st : Station) (r : PositionRecord) (used : Nat) (t : Template) (zone : Int × Int) (radius : Int)
      (sd : Side), r.used = some used → (slotAt s.slots used).template = some t → zoneOf t.points = some zone →
    let m := (removalsAt s st r radius).get sd
    let atTaping := ((s.measurements.get st).wheels.get sd).rTap.getD 0 - radius
    let sample := fun (p : Point) => p ∈ ((s.scans.get st).sides.get sd).points ∧ zone.1 ≤ p.y ∧ p.y ≤ zone.2
    let removal := fun (p : Point) => p.r - radius - offsetAt p.y t.points
    atTaping ≤ m ∧ (∀ p, sample p → removal p ≤ m) ∧ (m = atTaping ∨ ∃ p, sample p ∧ m = removal p))
  ∧ (∀ (f maxRough : Int) (m : Sides Int), 0 < maxRough →
    let rough := fun (x : Int) => if x ≤ f then 0 else ((x - f + maxRough - 1) / maxRough).toNat
    stepCountOf f maxRough m = Nat.max (rough m.l) (rough m.r) + 1)
  ∧ ∀ (rFinal f maxRough : Int) (m : Sides Int) (n : Nat), 0 < f → 0 < maxRough → 0 < m.l → 0 < m.r →
      n = stepCountOf f maxRough m →
      let steps := makeSteps rFinal f m n
      1 ≤ n ∧ steps.length = n
      ∧ ∀ sd,
          let total := m.get sd
          (steps.map fun e => e.depth.get sd).sum = total
          ∧ ∀ k e, steps[k]? = some e →
              let shared := (n : Int) - 1
              let depth := e.depth.get sd
              let before := if k = 0 then rFinal + total else ((steps.map fun x => x.target.get sd)[k - 1]?).getD 0
              e.number = k + 1 ∧ (e.kind = .finish ↔ k + 1 = n)
              ∧ depth = (if total ≤ f then (if k + 1 < n then 0 else total)
                  else if k + 1 < n then
                    (total - f) / shared + (if (k : Int) + 1 ≤ (total - f) % shared then 1 else 0)
                  else f)
              ∧ e.target.get sd = rFinal + (total - ((steps.take (k + 1)).map fun x => x.depth.get sd).sum)
              ∧ (k + 1 < n → 0 ≤ depth ∧ depth ≤ maxRough)
              ∧ (k + 1 = n → 0 < depth ∧ e.target.get sd = rFinal)
              ∧ e.target.get sd ≤ before ∧ (depth = 0 → e.target.get sd = before)

/-- How an axle is decided (R141 to R145, R149, R150): budget, disposition, template choice under FAST and FULL with its
marks, condemn, depth, in that order, the first that excludes it ending its way; the taping radii enter its record at the
template choice (log 18). The upper index of an open job is at most 7 (`JobRanged`, in StoreKept). What every plan keeps
(R151, R155): a final radius lies on the grid, at or above half the condemning diameter, and at or below each taping radius
less the clean-up depth; two included axles differ by at most half the bogie tolerance; the status says which positions are
included, and an EMPTY plan uses no slot. -/
def Obligations.EveryPlanIsSound : Prop :=
  (∀ (s : State) (st : Station) (j : Job) (x : AxleRecord), boundRecord s st = some x →
    let wheels := (s.measurements.get st).wheels
    let sides := (s.scans.get st).sides
    let radii : Sides Int := ⟨wheels.l.rTap.getD 0, wheels.r.rTap.getD 0⟩
    let ft := minInt (wheels.l.ft.getD 0) (wheels.r.ft.getD 0)
    let lookup := dispositionLookup s.disposition ft
    let unmarked := List.replicate 8 Evaluation.notConsidered
    let looked : PositionRecord :=
      ⟨.included, ft, lookup, unmarked, none, none, none, false, none, none, none, none, none, []⟩
    let copied : PositionRecord := { looked with rTap := some radii }
    let decides := fun (r : PositionRecord) => decidePosition s st j = r
    let mark := fun (i : Nat) =>
      match (slotAt s.slots i).template with
      | some t =>
        if s.config.ftMin ≤ t.ftNom then evaluateTemplate s.config.cleanUp t radii ⟨sides.l.points, sides.r.points⟩
        else .ineligible
      | none => .ineligible
    let radius := fun (i : Nat) =>
      match mark i with
      | .evaluated _ _ r => some r
      | _ => none
    let judged := fun (table : List Evaluation) (chosen used : Nat) (own : Int) =>
      let r : PositionRecord :=
        { copied with evaluations := table, chosen := some chosen, used := some used, ownRadius := some own }
      let m := removalsAt s st r own
      if 2 * own < x.condemnDia then { r with outcome := .excluded .condemn }
      else if 8 < stepCountOf s.config.finishDepth s.config.maxRough m then
        { r with outcome := .excluded .depth, maxRemoval := some m }
      else { r with maxRemoval := some m }
    (x.budget = 0 → decides { looked with outcome := .excluded .budget })
    ∧ (x.budget ≠ 0 → lookup = .exchange → decides { looked with outcome := .excluded .exchange })
    ∧ (x.budget ≠ 0 → lookup ≠ .exchange → j.mode = .fast →
        let first :=
          match lookup with
          | .template i => i
          | _ => j.defaultTemplate
        let candidate := if mark first = .ineligible then j.defaultTemplate else first
        let table := (if mark first = .ineligible then unmarked.set first .ineligible else unmarked).set candidate
          (mark candidate)
        (mark candidate = .ineligible → decides { copied with outcome := .excluded .noTemplate, evaluations := table })
        ∧ (∀ sd, mark candidate = .notEvaluable sd →
            decides { copied with outcome := .excluded .noFit, evaluations := table })
        ∧ ∀ rL rR own, mark candidate = .evaluated rL rR own → decides (judged table candidate candidate own))
    ∧ (x.budget ≠ 0 → lookup ≠ .exchange → j.mode = .full → j.upperIndex ≤ 7 →
        let upper := j.upperIndex
        let table := (List.range 8).map fun i => if i ≤ upper then mark i else .notConsidered
        ((∀ i, i ≤ upper → mark i = .ineligible) →
          decides { copied with outcome := .excluded .noTemplate, evaluations := table })
        ∧ ((∃ i, i ≤ upper ∧ mark i ≠ .ineligible) → (∀ i, i ≤ upper → radius i = none) →
          decides { copied with outcome := .excluded .noFit, evaluations := table })
        ∧ ∀ (chosen used : Nat) (largest own : Int), chosen ≤ upper → radius chosen = some largest →
            (∀ i r, i ≤ upper → radius i = some r → r ≤ largest) →
            (∀ i r, i < chosen → radius i = some r → r < largest) →
            let biased := clampInt 0 upper ((chosen : Int) + j.bias)
            radius used = some own →
            ((chosen : Int) ≤ biased → chosen ≤ used ∧ (used : Int) ≤ biased
              ∧ ∀ i : Nat, used < i → (i : Int) ≤ biased → radius i = none) →
            (biased < (chosen : Int) → biased ≤ (used : Int) ∧ used ≤ chosen
              ∧ ∀ i : Nat, biased ≤ (i : Int) → i < used → radius i = none) →
            decides (judged table chosen used own)))
  ∧ ∀ (s : State) (j : Job), s.job = some j → 0 ≤ s.config.bogieTol →
    let p := computePlan s j
    let bound := fun (st : Station) => (jobPosition s st).isSome = true
    let included := fun (st : Station) (r : PositionRecord) => p.positions.get st = some r ∧ r.outcome = .included
    (∀ st, (p.positions.get st).isSome = true ↔ bound st)
    ∧ (∀ st r, included st r → ∃ radius, r.rFinal = some radius ∧ radius % 25 = 0
        ∧ (∀ x, boundRecord s st = some x → x.condemnDia ≤ 2 * radius)
        ∧ r.rTap = some (measuredRadii s st)
        ∧ radius ≤ (measuredRadii s st).l - s.config.cleanUp ∧ radius ≤ (measuredRadii s st).r - s.config.cleanUp)
    ∧ (∀ r1 r2 x1 x2, included .one r1 → included .two r2 → r1.rFinal = some x1 → r2.rFinal = some x2 →
        magnitude (x1 - x2) ≤ s.config.bogieTol / 2)
    ∧ (p.status = .fullPlan ↔ ∀ st, bound st → ∃ r, included st r)
    ∧ (p.status = .empty ↔ ∀ st r, ¬ included st r)
    ∧ (p.status = .empty → ∀ i, planUses p i = false)

/-- The position records of a plan (R140, R151 to R153): each bound position as it is decided, the larger of two own radii that
differ by more than half the bogie tolerance lowered and checked again, and each included position with its steps.
PLAN (R139, R140, R156, R157): refused with its cause, or taken whole: the plan stands, its slots and no others are locked, the
cut is PLANNED, each excluded axle receives its EXCLUDED event, and the notices go in the order of R157. -/
def Obligations.PlanTaken : Prop :=
  (∀ (s : State) (j : Job), s.job = some j →
    let p := computePlan s j
    let one := decidePosition s .one j
    let two := decidePosition s .two j
    let finished := fun (st : Station) (r : PositionRecord) => if r.outcome = .included then withSteps s st r else r
    let half := s.config.bogieTol / 2
    let lowered := fun (st : Station) (x : AxleRecord) (smaller : Int) (r : PositionRecord) =>
      let radius := smaller + half / 25 * 25
      let m := removalsAt s st r radius
      if 2 * radius < x.condemnDia then { r with matched := true, outcome := .excluded .matchCondemn }
      else if 8 < stepCountOf s.config.finishDepth s.config.maxRough m then
        { r with matched := true, outcome := .excluded .matchDepth, maxRemoval := some m }
      else { r with matched := true, rFinal := some radius, maxRemoval := some m }
    p = ⟨j.number, j.mode, j.defaultTemplate, j.upperIndex, j.bias, p.status, p.positions⟩
    ∧ (j.position2 = none → p.positions = ⟨some (finished .one one), none⟩)
    ∧ (j.position2.isSome = true →
      (one.outcome ≠ .included ∨ two.outcome ≠ .included →
        p.positions = ⟨some (finished .one one), some (finished .two two)⟩)
      ∧ ∀ a b x1 x2, one.outcome = .included → two.outcome = .included → one.ownRadius = some a →
          two.ownRadius = some b → boundRecord s .one = some x1 → boundRecord s .two = some x2 →
        (magnitude (a - b) ≤ half → p.positions = ⟨some (finished .one one), some (finished .two two)⟩)
        ∧ (half < magnitude (a - b) → b < a →
          p.positions = ⟨some (finished .one (lowered .one x1 b one)), some (finished .two two)⟩)
        ∧ (half < magnitude (a - b) → a < b →
          p.positions = ⟨some (finished .one one), some (finished .two (lowered .two x2 a two))⟩)))
  ∧ ∀ (tag : Byte) (s : State), PortReady .console s →
    let refused := fun (fields : List Byte) =>
      exec (.plan .console tag) s = .next (carriedOut .console tag 0x48 ⟨.interlock, fields⟩ [] s)
    (s.job = none → refused (oneByte 1))
    ∧ ∀ j, s.job = some j →
      (s.cut.state ≠ .none → s.cut.state ≠ .planned → refused (oneByte 2))
      ∧ ((s.cut.state = .none ∨ s.cut.state = .planned) →
        (s.measurements.one.state ≠ .valid → refused (oneByte 3 ++ oneByte 1))
        ∧ (s.measurements.one.state = .valid → j.position2.isSome = true → s.measurements.two.state ≠ .valid →
            refused (oneByte 3 ++ oneByte 2))
        ∧ (s.measurements.one.state = .valid → (j.position2.isSome = true → s.measurements.two.state = .valid) →
            JobStands s →
          let p := computePlan s j
          let first := s.cut.state == .none
          let change := fun (st : Station) (r : AxleRecord) =>
            match p.positions.get st, jobPosition s st with
            | some x, some position =>
              match x.outcome with
              | .excluded reason =>
                let wheels := (s.measurements.get st).wheels
                let diameter := fun (w : Wheel) => 2 * w.rTap.getD 0
                let ends : Sides Int :=
                  match position.orientation with
                  | .aOnL => ⟨diameter wheels.l, diameter wheels.r⟩
                  | .aOnR => ⟨diameter wheels.r, diameter wheels.l⟩
                { r with
                  history := ringAppend r.history ⟨.excluded reason, j.number, j.odometer, ends.l, ends.r⟩, dirty := true
                  condemned := r.condemned || decide (reason ∈ [.condemn, .matchCondemn, .exchange]) }
              | .included => r
            | _, _ => r
          let excluded := fun (st : Station) =>
            match p.positions.get st with
            | some x => x.outcome != .included
            | none => false
          let changes := fun (before after : AxleRecord) =>
            ({ ChangeSet.none with history := true, flags := before.condemned != after.condemned } : ChangeSet)
          let store := fun (st : Station) (held : List AxleRecord) =>
            if excluded st then changedStore s st (change st) held else held
          exec (.plan .console tag) s = .next
            (carriedOut .console tag 0x48 (okWith (planDoneBytes p))
              ([.planDone p]
                ++ onlyIf first [.cutState (jobNumber s) .none .planned none noReports (nextSteps s.cut)]
                ++ onlyIf (excluded .one) (changeNotice s .one (change .one) changes)
                ++ onlyIf (excluded .two) (changeNotice s .two (change .two) changes))
              { s with
                plan := some p
                slots := s.slots.mapIdx fun i x => { x with locked := planUses p i }
                cut := if first then { s.cut with state := .planned, cause := none } else s.cut
                store := store .two (store .one s.store) })))

/-! ## Cut Sequencer -/

/-- START_CUT (R164, R165): the first row that applies refuses it with its cause and with nothing changed; otherwise each included
station's context is opened at step 1, the cut is RUNNING, and CUT_STATE is posted. The bytes of the reply are log 9. -/
def Obligations.StartCut : Prop :=
  ∀ (tag : Byte) (s : State),
    (∀ port, port ≠ .console → PortReady port s →
      exec (.startCut port tag) s = .next (carriedOut port tag 0x50 (plainly .role) [] s))
    ∧ (PortReady .console s →
      let refused := fun (fields : List Byte) =>
        exec (.startCut .console tag) s = .next (carriedOut .console tag 0x50 ⟨.interlock, fields⟩ [] s)
      let spent := fun (st : Station) =>
        planIncludes s st = true ∧ ∃ r, boundRecord s st = some r ∧ r.budget = 0
      let allowed := fun (st : Station) =>
        planIncludes s st = true → ∃ r, boundRecord s st = some r ∧ r.budget ≠ 0
      (s.cut.state ≠ .planned → refused (oneByte 2))
      ∧ ∀ p, s.cut.state = .planned → s.plan = some p →
        (p.status = .empty → refused (oneByte 4))
        ∧ (p.status ≠ .empty → s.interlock.phase = .halted → refused (oneByte 5))
        ∧ (p.status ≠ .empty → s.interlock.phase ≠ .halted →
          (spent .one → refused (oneByte 6 ++ oneByte 1))
          ∧ (allowed .one → spent .two → refused (oneByte 6 ++ oneByte 2))
          ∧ (allowed .one → allowed .two →
            let next := fun (st : Station) => if planIncludes s st then some 1 else none
            let context := fun (st : Station) => (⟨next st, none, 0, false, false, none, none⟩ : CutContext)
            exec (.startCut .console tag) s = .next
              (carriedOut .console tag 0x50
                (okWith (oneByte 1 ++ optByte (next .one)
                  ++ (if stationExists s .two then oneByte 1 ++ optByte (next .two) else bytesOf 2 0)))
                [.cutState (jobNumber s) .planned .running none noReports ⟨next .one, next .two⟩]
                { s with
                  cut := { s.cut with
                    state := .running, cause := none, contexts := ⟨context .one, context .two⟩ } }))))

/-- SUSPEND_CUT (R177) and RESUME_CUT (R178). The bytes of the RESUME_CUT reply are log 9, the next steps in CUT_STATE log 19. -/
def Obligations.SuspendAndResume : Prop :=
  ∀ (tag : Byte) (s : State),
    (∀ port, port ≠ .console → PortReady port s →
      exec (.suspendCut port tag) s = .next (carriedOut port tag 0x51 (plainly .role) [] s)
      ∧ exec (.resumeCut port tag) s = .next (carriedOut port tag 0x52 (plainly .role) [] s))
    ∧ (PortReady .console s →
      (s.cut.state = .running →
        exec (.suspendCut .console tag) s = .next
          (carriedOut .console tag 0x51 (plainly .ok)
            [.cutState (jobNumber s) .running .suspended (some .operator) noReports (nextSteps s.cut)]
            { s with cut := { s.cut with state := .suspended, cause := some .operator } }))
      ∧ (s.cut.state = .suspended →
        exec (.suspendCut .console tag) s = .next (carriedOut .console tag 0x51 (plainly .ok) [] s))
      ∧ (s.cut.state ≠ .running → s.cut.state ≠ .suspended →
        exec (.suspendCut .console tag) s = .next (carriedOut .console tag 0x51 (plainly .interlock) [] s))
      ∧ (s.cut.state ≠ .suspended ∨ s.interlock.phase = .halted →
        exec (.resumeCut .console tag) s = .next (carriedOut .console tag 0x52 (plainly .interlock) [] s))
      ∧ (s.cut.state = .suspended → s.interlock.phase ≠ .halted →
        let items := fun (c : CutContext) => oneByte 1 ++ optByte c.next ++ optByte c.inFlight ++ optByte c.late
        exec (.resumeCut .console tag) s = .next
          (carriedOut .console tag 0x52
            (okWith (items s.cut.contexts.one
              ++ (if stationExists s .two then items s.cut.contexts.two else bytesOf 4 0)))
            [.cutState (jobNumber s) .suspended .running none noReports (nextSteps s.cut)]
            { s with cut := { s.cut with state := .running, cause := none } })))

/-- ABANDON_CUT (R179, R180). The next steps in CUT_STATE are log 19; FLAGS only where REMEASURE was clear is log 31. -/
def Obligations.AbandonCut : Prop :=
  ∀ (tag : Byte) (s : State),
    (∀ port, port ≠ .console → PortReady port s →
      exec (.abandonCut port tag) s = .next (carriedOut port tag 0x53 (plainly .role) [] s))
    ∧ (PortReady .console s →
      let answered := fun r => exec (.abandonCut .console tag) s = .next (carriedOut .console tag 0x53 (plainly r) [] s)
      let ended := s.cut.state = .none ∨ s.cut.state = .complete ∨ s.cut.state = .abandoned
      (ended → answered .interlock)
      ∧ (¬ ended → anyStepInFlight s = true → answered .busy)
      ∧ (s.cut.state = .planned → anyStepInFlight s = false →
        exec (.abandonCut .console tag) s = .next
          (carriedOut .console tag 0x53 (plainly .ok)
            [.cutState (jobNumber s) .planned .none none noReports ⟨none, none⟩]
            { s with plan := none, cut := emptiedCut s.cut, slots := unlocked s.slots }))
      ∧ ∀ j, (s.cut.state = .running ∨ s.cut.state = .suspended) → anyStepInFlight s = false → s.job = some j →
          JobStands s →
        let partly := fun (st : Station) => planIncludes s st && decide (1 ≤ (s.cut.contexts.get st).completed)
          && !(s.cut.contexts.get st).axleDone
        let change := fun (st : Station) (r : AxleRecord) =>
          { r with
            history := ringAppend r.history
              ⟨.partialCut (s.cut.contexts.get st).completed, j.number, j.odometer, r.turnedA, r.turnedB⟩
            dirty := true, remeasure := true }
        let changes := fun (before _ : AxleRecord) =>
          ({ ChangeSet.none with history := true, flags := !before.remeasure } : ChangeSet)
        let store := fun (st : Station) (held : List AxleRecord) =>
          if partly st then changedStore s st (change st) held else held
        exec (.abandonCut .console tag) s = .next
          (carriedOut .console tag 0x53 (plainly .ok)
            ([.cutState (jobNumber s) s.cut.state .abandoned none noReports (nextSteps s.cut)]
              ++ onlyIf (partly .one) (changeNotice s .one (change .one) changes)
              ++ onlyIf (partly .two) (changeNotice s .two (change .two) changes))
            { s with
              cut := { s.cut with state := .abandoned, cause := none }
              slots := unlocked s.slots
              store := store .two (store .one s.store) }))

/-- TAKE_PASS (R166, R167): refused by the first row that applies; otherwise the next step is in flight, its timer runs, and
the phase becomes CUTTING. The step record is that of 12.5 (without an odometer reading, log 40). -/
def Obligations.TakePass : Prop :=
  (∀ (job template : Nat) (st : Station) (e : StepEntry), stepRecordBytes job st template e
    = unsignedBytes 2 job ++ oneByte (if st = .one then 1 else 2) ++ oneByte e.number
      ++ oneByte (if e.kind = .rough then 0 else 1) ++ oneByte template ++ lengthBytes e.depth.l ++ lengthBytes e.target.l
      ++ lengthBytes e.depth.r ++ lengthBytes e.target.r)
  ∧ ∀ (tag : Byte) (station : Nat) (s : State), PortReady .lathe s →
    let answered := fun r => exec (.takePass .lathe tag station) s = .next (carriedOut .lathe tag 0x58 (plainly r) [] s)
    (stationArg s station = none → answered .form)
    ∧ ∀ st, stationArg s station = some st →
      let c := s.cut.contexts.get st
      let lives := s.cut.tools.get st
      (s.cut.state ≠ .running ∨ ¬ WorkAdmitted s st → answered .interlock)
      ∧ (s.cut.state = .running → WorkAdmitted s st →
        (scanInFlight s st = true → answered .busy)
        ∧ (scanInFlight s st = false → (stepInFlight s st).isSome = true → answered .inFlight)
        ∧ (scanInFlight s st = false → stepInFlight s st = none → c.next = none → answered .none)
        ∧ ∀ k e template, scanInFlight s st = false → stepInFlight s st = none → c.next = some k →
            stepEntry s st k = some e → (planRecord s st).bind PositionRecord.used = some template →
          let wornL := decide (0 < e.depth.l ∧ lives.l = 0)
          let wornR := decide (0 < e.depth.r ∧ lives.r = 0)
          (wornL = true ∨ wornR = true →
            exec (.takePass .lathe tag station) s = .next
              (carriedOut .lathe tag 0x58
                ⟨.tool, oneByte ((if wornL then 1 else 0) + (if wornR then 2 else 0))⟩ [] s))
          ∧ (wornL = false → wornR = false → PhaseDerived s →
            exec (.takePass .lathe tag station) s = .next
              (carriedOut .lathe tag 0x58
                (okWith (unsignedBytes 2 s.config.stepTime ++ stepRecordBytes (jobNumber s) st template e))
                (phaseNotice s .cutting)
                { s with
                  cut := { s.cut with
                    contexts := s.cut.contexts.set st
                      { c with inFlight := some k, late := none, stepTime := some s.config.stepTime }
                    timers := s.cut.timers.set st (some (1000 * s.config.stepTime).toNat) }
                  interlock := heldPhase s .cutting s.interlock.clamped })))

/-- PASS_DONE (R169 to R172, R117, R119): the completed step is booked in the context, the tools, the measurement and the
record, the last finish completes the cut and releases its locks, and the notices go in the order of R172; a station or a step
that does not exist is answered FORM. That the next step in the reply is one byte, 0 for none, with no presence byte is log 9;
the next step of the other station in CUT_STATE is log 19, completion from RUNNING and SUSPENDED alone log 22, FLAGS in the
change set log 31, and a measurement that is not VALID kept as it is log 36. -/
def Obligations.PassDone : Prop :=
  (∀ (tag : Byte) (station step : Nat) (s : State), PortReady .lathe s →
    stationArg s station = none ∨ step = 0 ∨ 8 < step →
    exec (.passDone .lathe tag station step) s = .next (carriedOut .lathe tag 0x59 (plainly .form) [] s))
  ∧ ∀ (tag : Byte) (station step : Nat) (st : Station) (s : State), PortReady .lathe s → stationArg s station = some st →
    1 ≤ step → step ≤ 8 →
    let c := s.cut.contexts.get st
    let lives := s.cut.tools.get st
    let m := s.measurements.get st
    let answered := fun r =>
      exec (.passDone .lathe tag station step) s = .next (carriedOut .lathe tag 0x59 (plainly r) [] s)
    (stepInFlight s st ≠ some step → c.late = some step → answered .late)
    ∧ (stepInFlight s st ≠ some step → c.late ≠ some step → answered .stale)
    ∧ ∀ j r p e template rFinal removal ph, stepInFlight s st = some step → s.job = some j → boundRecord s st = some r →
        planRecord s st = some p → stepEntry s st step = some e → p.used = some template → p.rFinal = some rFinal →
        p.maxRemoval = some removal →
      let finish := e.kind == .finish
      let first := !c.firstDone
      let context : CutContext :=
        { c with
          inFlight := none, completed := c.completed + 1, firstDone := true, axleDone := c.axleDone || finish
          next := if finish then none else some (step + 1) }
      let after : Sides Nat :=
        ⟨if 0 < e.depth.l then lives.l - 1 else lives.l, if 0 < e.depth.r then lives.r - 1 else lives.r⟩
      let contexts := s.cut.contexts.set st context
      let underWay := s.cut.state == .running || s.cut.state == .suspended
      let done := underWay && (!planIncludes s .one || contexts.one.axleDone)
        && (!planIncludes s .two || contexts.two.axleDone)
      let y : State :=
        { s with
          cut :=
            { state := if done then .complete else s.cut.state
              cause := if done then none else s.cut.cause
              contexts := contexts
              timers := s.cut.timers.set st none
              tools := s.cut.tools.set st after }
          slots := if done then unlocked s.slots else s.slots
          measurements := s.measurements.set st
            { m with
              state := if m.state = .valid then .stale else m.state
              verifyDue := m.verifyDue || finish
              verifyTarget := if finish then some rFinal else m.verifyTarget } }
      let change := fun (x : AxleRecord) =>
        let spent := if first then { x with budget := x.budget - 1, dirty := true } else x
        if finish then
          { spent with
            history := ringAppend x.history
              ⟨.cut template (maxInt removal.l removal.r), j.number, j.odometer, 2 * rFinal, 2 * rFinal⟩
            dirty := true, remeasure := true
            turnedA := minInt (2 * rFinal) x.newDia, turnedB := minInt (2 * rFinal) x.newDia }
        else spent
      let changes : ChangeSet := ⟨finish, first, finish, false, finish, false⟩
      derivedPhase y = some ph →
      exec (.passDone .lathe tag station step) s = .next
        (carriedOut .lathe tag 0x59
          (okWith (oneByte step ++ oneByte context.completed ++ optByte context.next ++ boolByte context.axleDone
            ++ oneByte after.l ++ oneByte after.r ++ oneByte y.cut.state.code))
          ([.cutState (jobNumber s) s.cut.state y.cut.state y.cut.cause (reportAt st (.completed step)) (nextSteps y.cut)]
            ++ onlyIf (decide (0 < e.depth.l ∧ lives.l = 1)) [.toolOut st .l]
            ++ onlyIf (decide (0 < e.depth.r ∧ lives.r = 1)) [.toolOut st .r]
            ++ phaseNotice s ph
            ++ onlyIf (first || finish) [.recordChanged r.identity changes])
          { y with
            store := if first || finish then changedStore s st change s.store else s.store
            interlock := heldPhase s ph s.interlock.clamped })

/-- The loss of a step by PASS_ABORTED (R175) and by its timer (R174), as R173 gives: the step stays next, nothing is booked,
a RUNNING cut is SUSPENDED with the cause, and only the expiry sets the late mark; PASS_ABORTED is answered FORM for a station
or a step that does not exist. A stopped timer does not expire (log 20); the next step of the other station in CUT_STATE is
log 19. -/
def Obligations.StepLost : Prop :=
  (∀ (tag : Byte) (station step : Nat) (s : State), PortReady .lathe s →
    stationArg s station = none ∨ step = 0 ∨ 8 < step →
    exec (.passAborted .lathe tag station step) s = .next (carriedOut .lathe tag 0x5A (plainly .form) [] s))
  ∧ ∀ (tag : Byte) (station step : Nat) (st : Station) (s : State), stationArg s station = some st →
    let c := s.cut.contexts.get st
    let lost := fun (cause : SuspendCause) (late : Option Nat) =>
      ({ s with
          cut := { s.cut with
            state := if s.cut.state = .running then .suspended else s.cut.state
            cause := if s.cut.state = .running then some cause else s.cut.cause
            contexts := s.cut.contexts.set st { c with inFlight := none, late := late }
            timers := s.cut.timers.set st none } } : State)
    let notices := fun (cause : SuspendCause) (y : State) (ph : Phase) =>
      [.cutState (jobNumber s) s.cut.state y.cut.state y.cut.cause (reportAt st (.aborted step cause)) (nextSteps s.cut)]
        ++ phaseNotice s ph
    let answered := fun r =>
      exec (.passAborted .lathe tag station step) s = .next (carriedOut .lathe tag 0x5A (plainly r) [] s)
    (PortReady .lathe s → 1 ≤ step → step ≤ 8 →
      (stepInFlight s st ≠ some step → c.late = some step → answered .late)
      ∧ (stepInFlight s st ≠ some step → c.late ≠ some step → answered .stale)
      ∧ ∀ ph, stepInFlight s st = some step → derivedPhase (lost .latheAbort c.late) = some ph →
          exec (.passAborted .lathe tag station step) s = .next
            (carriedOut .lathe tag 0x5A (plainly .ok) (notices .latheAbort (lost .latheAbort c.late) ph)
              { lost .latheAbort c.late with interlock := heldPhase s ph s.interlock.clamped }))
    ∧ (s.inReset = false →
      (stepInFlight s st = none ∨ s.cut.timers.get st = none →
        exec (.stepTimerExpiry st) s = .next (happened [] s))
      ∧ ∀ ph, stepInFlight s st = some step → (s.cut.timers.get st).isSome = true →
          derivedPhase (lost .timeout (some step)) = some ph →
          exec (.stepTimerExpiry st) s = .next
            (happened (notices .timeout (lost .timeout (some step)) ph)
              { lost .timeout (some step) with interlock := heldPhase s ph s.interlock.clamped }))

/-- TOOL_CHANGED (R181): FORM for a bad station, side or life, IN_FLIGHT with a step in flight at the station, and otherwise
the one edge life is set. -/
def Obligations.ToolChanged : Prop :=
  ∀ (tag : Byte) (station side life : Nat) (s : State), PortReady .lathe s →
    let answered := fun r =>
      exec (.toolChanged .lathe tag station side life) s = .next (carriedOut .lathe tag 0x5B (plainly r) [] s)
    (stationArg s station = none ∨ 2 ≤ side ∨ life = 0 ∨ 256 ≤ life → answered .form)
    ∧ ∀ st sd, stationArg s station = some st → sideOf side = some sd → 1 ≤ life → life ≤ 255 →
        ((stepInFlight s st).isSome = true → answered .inFlight)
        ∧ (stepInFlight s st = none →
          exec (.toolChanged .lathe tag station side life) s = .next
            (carriedOut .lathe tag 0x5B (okWith (oneByte station ++ oneByte side ++ oneByte life)) []
              { s with
                cut := { s.cut with tools := s.cut.tools.set st ((s.cut.tools.get st).set sd life) } }))

/-! ## Invariants -/

/-- The machine right after reset has every property that the steps keep. -/
def Obligations.InvariantsAtReset : Prop :=
  let s := State.reset
  HaltedByCauses s ∧ PermitsFollow s ∧ QueuesBounded s ∧ StoreOrdered s ∧ JobStands s ∧ TapingPointsStand s
    ∧ JobRanged s ∧ CutConsistent s ∧ StepsGuarded s ∧ NextStepsStand s ∧ PhaseDerived s ∧ ConfigInRange s ∧ ScansBounded s

/-- The derivation of the phase by the first case of R1 that applies, with the support windows of R51; the re-derivation of R2,
which halts the pit with cause SUPPORT where case 4 applies (R4); and every step keeps the phase HALTED exactly while
the cause set is not empty (R13). -/
def Obligations.HaltedByCausesKept : Prop :=
  (∀ (s : State) (height : Int), supportWindows s height
    = jacksZip (fun (a : Axis) trim => decide (magnitude (a.measured - (height + trim)) ≤ s.config.window)) s.lift.axes
        s.config.trims)
  ∧ (∀ s : State,
    let exists_ := fun (st : Station) => st = .one ∨ s.straps.stationCount = .tandem
    let clamped := ∃ st, exists_ st ∧ s.interlock.clamped.get st = true
    let cutting := ∃ st, exists_ st ∧ (s.cut.contexts.get st).inFlight ≠ none
    (s.interlock.causes ≠ ⟨false, false, false, false, false⟩ → derivedPhase s = some .halted)
    ∧ (s.interlock.causes = ⟨false, false, false, false, false⟩ →
      (s.job = none → derivedPhase s = some .idle)
      ∧ ∀ j, s.job = some j →
          let support := s.lift.state = .idle ∧ supportWindows s j.supportHeight = ⟨true, true, true, true⟩
          (¬ support → (¬ clamped → derivedPhase s = some .staged) ∧ (clamped → derivedPhase s = none))
          ∧ (support →
              (¬ clamped → derivedPhase s = some .supported)
              ∧ (clamped → ¬ cutting → derivedPhase s = some .clamped)
              ∧ (clamped → cutting → derivedPhase s = some .cutting))))
  ∧ (∀ s : State,
    (∀ p, derivedPhase s = some p →
      rederive s = postAll (phaseNotice s p) { s with interlock := heldPhase s p s.interlock.clamped })
    ∧ (derivedPhase s = none → rederive s = postAll (haltNotices .support s) (haltEffect .support s)))
  ∧ ∀ s t : State, HaltedByCauses s → step s = .next t → HaltedByCauses t

/-- The cut permits follow the phase and the clamps (R8): every step keeps it, so they change at the event that changes
either; the station 2 output of a single-station pit is never asserted, and after reset both are deasserted. -/
def Obligations.PermitsFollowKept : Prop :=
  (∀ s t : State, PermitsFollow s → step s = .next t → PermitsFollow t)
  ∧ (∀ s : State, PermitsFollow s → s.straps.stationCount = .single → s.interlock.permits.two = false)
  ∧ PermitsFollow State.reset ∧ State.reset.interlock.permits = ⟨false, false⟩
  ∧ ∀ pins s t, exec (.resetRelease pins) s = .next t → t.interlock.permits = ⟨false, false⟩

/-- The notice queues (R194, R195): a notice is posted on the ports whose role subscribes to its kind; it is queued where there is
room, and dropped with LOST where the queue holds 8; either way the notice number rises; no step makes a queue longer than 8,
and reset empties it. -/
def Obligations.NoticeQueues : Prop :=
  (∀ (n : NoticeBody) (id : PortId), subscribes n id = true ↔
    match n with
    | .phase _ _ => True
    | .liftDone _ _ _ _ _ => id = .console
    | .liftFault _ _ _ _ _ _ _ => id = .console
    | .scanDone _ _ => True
    | .planDone _ => id = .depot ∨ id = .console
    | .cutState _ _ _ _ _ _ => True
    | .toolOut _ _ => id = .lathe ∨ id = .console
    | .recordChanged _ _ => id = .depot
    | .halted _ _ => True)
  ∧ (∀ (q : Port) (n : NoticeBody),
    let number := q.noticeNumber + 1
    (q.queue.length < 8 → postToPort q n = { q with noticeNumber := number, queue := q.queue ++ [⟨number, n⟩] })
    ∧ (8 ≤ q.queue.length → postToPort q n = { q with noticeNumber := number, lost := true }))
  ∧ (∀ (n : NoticeBody) (id : PortId) (s : State),
      (post n s).ports.get id = if subscribes n id then postToPort (s.ports.get id) n else s.ports.get id)
  ∧ (∀ s t : State, QueuesBounded s → step s = .next t → QueuesBounded t)
  ∧ ∀ s : State, ∃ t, exec .reset s = .next t ∧ ∀ id, (t.ports.get id).queue = []

/-- The store's form, the binding of the open job's records and the ranges of its settings (R45, R46): every step keeps them. -/
def Obligations.StoreKept : Prop :=
  (∀ s t : State, StoreOrdered s → JobStands s → step s = .next t → StoreOrdered t ∧ JobStands t)
  ∧ ∀ s t : State, JobRanged s → step s = .next t → JobRanged t

/-- R127: every step keeps the taping point of each LOADED slot at the configured y_tap. -/
def Obligations.TapingPointsKept : Prop :=
  ∀ s t : State, TapingPointsStand s → step s = .next t → TapingPointsStand t

/-- R161, R136: every step keeps the suspend cause with SUSPENDED alone, and a plan with every cut state but NONE. -/
def Obligations.CutConsistentKept : Prop :=
  ∀ s t : State, CutConsistent s → step s = .next t → CutConsistent t

/-- R1, R2, R162, R165, R167: every step keeps the phase held equal to the one derived, a step in flight only where R167 admits
it, and a next step only from START_CUT on, for an included axle that is not done. -/
def Obligations.PhaseAndStepsKept : Prop :=
  ∀ s t : State, PhaseDerived s ∧ StepsGuarded s ∧ NextStepsStand s → step s = .next t →
    PhaseDerived t ∧ StepsGuarded t ∧ NextStepsStand t

/-- The table of R198 with the item numbers of 12.8: which items and indices exist, which are marked, the range of each, and the
field that holds it; and every step keeps each configuration item in its range (R198, R199). -/
def Obligations.ConfigInRangeKept : Prop :=
  (∀ item index : Nat, itemNamed item index = true ↔
    (1 ≤ item ∧ item ≤ 25) ∧ (if 9 ≤ item ∧ item ≤ 12 then 1 ≤ index ∧ index ≤ 4 else index = 0))
  ∧ (∀ item : Nat, itemMarked item = true ↔ item ∈ [9, 10, 11, 12, 13, 14, 15, 19, 20, 21, 22, 23])
  ∧ (∀ c : Configuration,
    itemRange c 1 = (100, minInt 5000 c.fh) ∧ itemRange c 2 = (maxInt 500 c.fl, 40000)
    ∧ ([3, 4, 5, 6, 7, 8, 9, 10, 11, 12, 13, 14, 15, 16, 17, 18, 19, 20, 21, 22, 23, 24, 25].map (itemRange c)
        = [(100, 20000), (-50000, 50000), (500, 10000), (200, 5000), (50, 1000), (500, 10000), (-20000, 20000),
           (250000, 700000), (50000, 200000), (256, 65536), (60000, 80000), (5000, 15000), (1000, 4000), (5000, 120000),
           (20, 1000), (20, 500), (100, 2000), (200, 1500), (1000, 6000), (0, 5000), (20000, 35000), (60, 3600),
           (0, 65535)])
    ∧ ([1, 2, 3, 4, 5, 6, 7, 8].map (fun item => ConfigInRange.storedAt c item 0)
        = [c.fl, c.fh, c.acceleration, c.rampOffset, c.tiltLimit, c.followLimit, c.window, c.settleTime])
    ∧ ([1, 2, 3, 4].map (ConfigInRange.storedAt c 9) = [c.trims.j1, c.trims.j2, c.trims.j3, c.trims.j4])
    ∧ ([1, 2, 3, 4].map (ConfigInRange.storedAt c 10)
        = [c.refRadius.one.l, c.refRadius.one.r, c.refRadius.two.l, c.refRadius.two.r])
    ∧ ([1, 2, 3, 4].map (ConfigInRange.storedAt c 11)
        = [c.rollerDia.one.l, c.rollerDia.one.r, c.rollerDia.two.l, c.rollerDia.two.r])
    ∧ ([1, 2, 3, 4].map (ConfigInRange.storedAt c 12)
        = [c.rollerCounts.one.l, c.rollerCounts.one.r, c.rollerCounts.two.l, c.rollerCounts.two.r])
    ∧ ([13, 14, 15, 16, 17, 18, 19, 20, 21, 22, 23, 24, 25].map (fun item => ConfigInRange.storedAt c item 0)
        = [c.yTap, c.hRef, c.qrOffset, c.scanTime, c.agreeTol, c.verifyTol, c.cleanUp, c.finishDepth, c.maxRough,
           c.bogieTol, c.ftMin, c.stepTime, c.wearAlertRate]))
  ∧ ∀ s t : State, ConfigInRange s → step s = .next t → ConfigInRange t

/-- R88, R94, R95, R97: every step keeps the bounds and the order of the point lists and the captures. -/
def Obligations.ScansBoundedKept : Prop :=
  ∀ s t : State, ScansBounded s → step s = .next t → ScansBounded t

end Statements
end

