-- ==== Sys2Proof/Laws/State.lean ====
section
/-! SUPPORT. What each state update leaves and what it writes: one lemma per field and update, all by rfl. -/

namespace Sys2Proof.Machine

/-! ## State.setPort -/

@[simp] theorem State.setPort_pending (s : State) (id : PortId) (q : Port) : (s.setPort id q).pending = s.pending := rfl
@[simp] theorem State.setPort_inReset (s : State) (id : PortId) (q : Port) : (s.setPort id q).inReset = s.inReset := rfl
@[simp] theorem State.setPort_straps (s : State) (id : PortId) (q : Port) : (s.setPort id q).straps = s.straps := rfl
@[simp] theorem State.setPort_interlock (s : State) (id : PortId) (q : Port) : (s.setPort id q).interlock = s.interlock := rfl
@[simp] theorem State.setPort_store (s : State) (id : PortId) (q : Port) : (s.setPort id q).store = s.store := rfl
@[simp] theorem State.setPort_job (s : State) (id : PortId) (q : Port) : (s.setPort id q).job = s.job := rfl
@[simp] theorem State.setPort_lift (s : State) (id : PortId) (q : Port) : (s.setPort id q).lift = s.lift := rfl
@[simp] theorem State.setPort_scans (s : State) (id : PortId) (q : Port) : (s.setPort id q).scans = s.scans := rfl
@[simp] theorem State.setPort_rollers (s : State) (id : PortId) (q : Port) : (s.setPort id q).rollers = s.rollers := rfl
@[simp] theorem State.setPort_measurements (s : State) (id : PortId) (q : Port) : (s.setPort id q).measurements = s.measurements := rfl
@[simp] theorem State.setPort_slots (s : State) (id : PortId) (q : Port) : (s.setPort id q).slots = s.slots := rfl
@[simp] theorem State.setPort_disposition (s : State) (id : PortId) (q : Port) : (s.setPort id q).disposition = s.disposition := rfl
@[simp] theorem State.setPort_plan (s : State) (id : PortId) (q : Port) : (s.setPort id q).plan = s.plan := rfl
@[simp] theorem State.setPort_cut (s : State) (id : PortId) (q : Port) : (s.setPort id q).cut = s.cut := rfl
@[simp] theorem State.setPort_config (s : State) (id : PortId) (q : Port) : (s.setPort id q).config = s.config := rfl
@[simp] theorem State.setPort_ports (s : State) (id : PortId) (q : Port) : (s.setPort id q).ports = s.ports.set id q := rfl

/-! ## post -/

@[simp] theorem post_pending (n : NoticeBody) (s : State) : (post n s).pending = s.pending := rfl
@[simp] theorem post_inReset (n : NoticeBody) (s : State) : (post n s).inReset = s.inReset := rfl
@[simp] theorem post_straps (n : NoticeBody) (s : State) : (post n s).straps = s.straps := rfl
@[simp] theorem post_interlock (n : NoticeBody) (s : State) : (post n s).interlock = s.interlock := rfl
@[simp] theorem post_store (n : NoticeBody) (s : State) : (post n s).store = s.store := rfl
@[simp] theorem post_job (n : NoticeBody) (s : State) : (post n s).job = s.job := rfl
@[simp] theorem post_lift (n : NoticeBody) (s : State) : (post n s).lift = s.lift := rfl
@[simp] theorem post_scans (n : NoticeBody) (s : State) : (post n s).scans = s.scans := rfl
@[simp] theorem post_rollers (n : NoticeBody) (s : State) : (post n s).rollers = s.rollers := rfl
@[simp] theorem post_measurements (n : NoticeBody) (s : State) : (post n s).measurements = s.measurements := rfl
@[simp] theorem post_slots (n : NoticeBody) (s : State) : (post n s).slots = s.slots := rfl
@[simp] theorem post_disposition (n : NoticeBody) (s : State) : (post n s).disposition = s.disposition := rfl
@[simp] theorem post_plan (n : NoticeBody) (s : State) : (post n s).plan = s.plan := rfl
@[simp] theorem post_cut (n : NoticeBody) (s : State) : (post n s).cut = s.cut := rfl
@[simp] theorem post_config (n : NoticeBody) (s : State) : (post n s).config = s.config := rfl

/-! ## startTransmitters -/

@[simp] theorem startTransmitters_pending (s : State) : (startTransmitters s).pending = s.pending := rfl
@[simp] theorem startTransmitters_inReset (s : State) : (startTransmitters s).inReset = s.inReset := rfl
@[simp] theorem startTransmitters_straps (s : State) : (startTransmitters s).straps = s.straps := rfl
@[simp] theorem startTransmitters_interlock (s : State) : (startTransmitters s).interlock = s.interlock := rfl
@[simp] theorem startTransmitters_store (s : State) : (startTransmitters s).store = s.store := rfl
@[simp] theorem startTransmitters_job (s : State) : (startTransmitters s).job = s.job := rfl
@[simp] theorem startTransmitters_lift (s : State) : (startTransmitters s).lift = s.lift := rfl
@[simp] theorem startTransmitters_scans (s : State) : (startTransmitters s).scans = s.scans := rfl
@[simp] theorem startTransmitters_rollers (s : State) : (startTransmitters s).rollers = s.rollers := rfl
@[simp] theorem startTransmitters_measurements (s : State) : (startTransmitters s).measurements = s.measurements := rfl
@[simp] theorem startTransmitters_slots (s : State) : (startTransmitters s).slots = s.slots := rfl
@[simp] theorem startTransmitters_disposition (s : State) : (startTransmitters s).disposition = s.disposition := rfl
@[simp] theorem startTransmitters_plan (s : State) : (startTransmitters s).plan = s.plan := rfl
@[simp] theorem startTransmitters_cut (s : State) : (startTransmitters s).cut = s.cut := rfl
@[simp] theorem startTransmitters_config (s : State) : (startTransmitters s).config = s.config := rfl

/-! ## drivePermits -/

@[simp] theorem drivePermits_pending (s : State) : (drivePermits s).pending = s.pending := rfl
@[simp] theorem drivePermits_inReset (s : State) : (drivePermits s).inReset = s.inReset := rfl
@[simp] theorem drivePermits_straps (s : State) : (drivePermits s).straps = s.straps := rfl
@[simp] theorem drivePermits_store (s : State) : (drivePermits s).store = s.store := rfl
@[simp] theorem drivePermits_job (s : State) : (drivePermits s).job = s.job := rfl
@[simp] theorem drivePermits_lift (s : State) : (drivePermits s).lift = s.lift := rfl
@[simp] theorem drivePermits_scans (s : State) : (drivePermits s).scans = s.scans := rfl
@[simp] theorem drivePermits_rollers (s : State) : (drivePermits s).rollers = s.rollers := rfl
@[simp] theorem drivePermits_measurements (s : State) : (drivePermits s).measurements = s.measurements := rfl
@[simp] theorem drivePermits_slots (s : State) : (drivePermits s).slots = s.slots := rfl
@[simp] theorem drivePermits_disposition (s : State) : (drivePermits s).disposition = s.disposition := rfl
@[simp] theorem drivePermits_plan (s : State) : (drivePermits s).plan = s.plan := rfl
@[simp] theorem drivePermits_cut (s : State) : (drivePermits s).cut = s.cut := rfl
@[simp] theorem drivePermits_config (s : State) : (drivePermits s).config = s.config := rfl
@[simp] theorem drivePermits_ports (s : State) : (drivePermits s).ports = s.ports := rfl

/-! ## setPhase -/

@[simp] theorem setPhase_pending (p : Phase) (s : State) : (setPhase p s).pending = s.pending := rfl
@[simp] theorem setPhase_inReset (p : Phase) (s : State) : (setPhase p s).inReset = s.inReset := rfl
@[simp] theorem setPhase_straps (p : Phase) (s : State) : (setPhase p s).straps = s.straps := rfl
@[simp] theorem setPhase_store (p : Phase) (s : State) : (setPhase p s).store = s.store := rfl
@[simp] theorem setPhase_job (p : Phase) (s : State) : (setPhase p s).job = s.job := rfl
@[simp] theorem setPhase_lift (p : Phase) (s : State) : (setPhase p s).lift = s.lift := rfl
@[simp] theorem setPhase_scans (p : Phase) (s : State) : (setPhase p s).scans = s.scans := rfl
@[simp] theorem setPhase_rollers (p : Phase) (s : State) : (setPhase p s).rollers = s.rollers := rfl
@[simp] theorem setPhase_measurements (p : Phase) (s : State) : (setPhase p s).measurements = s.measurements := rfl
@[simp] theorem setPhase_slots (p : Phase) (s : State) : (setPhase p s).slots = s.slots := rfl
@[simp] theorem setPhase_disposition (p : Phase) (s : State) : (setPhase p s).disposition = s.disposition := rfl
@[simp] theorem setPhase_plan (p : Phase) (s : State) : (setPhase p s).plan = s.plan := rfl
@[simp] theorem setPhase_cut (p : Phase) (s : State) : (setPhase p s).cut = s.cut := rfl
@[simp] theorem setPhase_config (p : Phase) (s : State) : (setPhase p s).config = s.config := rfl
@[simp] theorem setPhase_ports (p : Phase) (s : State) : (setPhase p s).ports = s.ports := rfl

/-! ## enterHalt -/

@[simp] theorem enterHalt_pending (c : HaltCause) (s : State) : (enterHalt c s).pending = s.pending := rfl
@[simp] theorem enterHalt_inReset (c : HaltCause) (s : State) : (enterHalt c s).inReset = s.inReset := rfl
@[simp] theorem enterHalt_straps (c : HaltCause) (s : State) : (enterHalt c s).straps = s.straps := rfl
@[simp] theorem enterHalt_store (c : HaltCause) (s : State) : (enterHalt c s).store = s.store := rfl
@[simp] theorem enterHalt_job (c : HaltCause) (s : State) : (enterHalt c s).job = s.job := rfl
@[simp] theorem enterHalt_lift (c : HaltCause) (s : State) : (enterHalt c s).lift = s.lift := rfl
@[simp] theorem enterHalt_scans (c : HaltCause) (s : State) : (enterHalt c s).scans = s.scans := rfl
@[simp] theorem enterHalt_rollers (c : HaltCause) (s : State) : (enterHalt c s).rollers = s.rollers := rfl
@[simp] theorem enterHalt_measurements (c : HaltCause) (s : State) : (enterHalt c s).measurements = s.measurements := rfl
@[simp] theorem enterHalt_slots (c : HaltCause) (s : State) : (enterHalt c s).slots = s.slots := rfl
@[simp] theorem enterHalt_disposition (c : HaltCause) (s : State) : (enterHalt c s).disposition = s.disposition := rfl
@[simp] theorem enterHalt_plan (c : HaltCause) (s : State) : (enterHalt c s).plan = s.plan := rfl
@[simp] theorem enterHalt_cut (c : HaltCause) (s : State) : (enterHalt c s).cut = s.cut := rfl
@[simp] theorem enterHalt_config (c : HaltCause) (s : State) : (enterHalt c s).config = s.config := rfl
@[simp] theorem enterHalt_ports (c : HaltCause) (s : State) : (enterHalt c s).ports = s.ports := rfl

/-! ## addCause -/

@[simp] theorem addCause_pending (c : HaltCause) (s : State) : (addCause c s).pending = s.pending := rfl
@[simp] theorem addCause_inReset (c : HaltCause) (s : State) : (addCause c s).inReset = s.inReset := rfl
@[simp] theorem addCause_straps (c : HaltCause) (s : State) : (addCause c s).straps = s.straps := rfl
@[simp] theorem addCause_store (c : HaltCause) (s : State) : (addCause c s).store = s.store := rfl
@[simp] theorem addCause_job (c : HaltCause) (s : State) : (addCause c s).job = s.job := rfl
@[simp] theorem addCause_lift (c : HaltCause) (s : State) : (addCause c s).lift = s.lift := rfl
@[simp] theorem addCause_scans (c : HaltCause) (s : State) : (addCause c s).scans = s.scans := rfl
@[simp] theorem addCause_rollers (c : HaltCause) (s : State) : (addCause c s).rollers = s.rollers := rfl
@[simp] theorem addCause_measurements (c : HaltCause) (s : State) : (addCause c s).measurements = s.measurements := rfl
@[simp] theorem addCause_slots (c : HaltCause) (s : State) : (addCause c s).slots = s.slots := rfl
@[simp] theorem addCause_disposition (c : HaltCause) (s : State) : (addCause c s).disposition = s.disposition := rfl
@[simp] theorem addCause_plan (c : HaltCause) (s : State) : (addCause c s).plan = s.plan := rfl
@[simp] theorem addCause_cut (c : HaltCause) (s : State) : (addCause c s).cut = s.cut := rfl
@[simp] theorem addCause_config (c : HaltCause) (s : State) : (addCause c s).config = s.config := rfl
@[simp] theorem addCause_ports (c : HaltCause) (s : State) : (addCause c s).ports = s.ports := rfl
@[simp] theorem addCause_interlock (c : HaltCause) (s : State) : (addCause c s).interlock = { s.interlock with causes := s.interlock.causes.add c } := rfl

/-! ## setClamp -/

@[simp] theorem setClamp_pending (st : Station) (b : Bool) (s : State) : (setClamp st b s).pending = s.pending := rfl
@[simp] theorem setClamp_inReset (st : Station) (b : Bool) (s : State) : (setClamp st b s).inReset = s.inReset := rfl
@[simp] theorem setClamp_straps (st : Station) (b : Bool) (s : State) : (setClamp st b s).straps = s.straps := rfl
@[simp] theorem setClamp_store (st : Station) (b : Bool) (s : State) : (setClamp st b s).store = s.store := rfl
@[simp] theorem setClamp_job (st : Station) (b : Bool) (s : State) : (setClamp st b s).job = s.job := rfl
@[simp] theorem setClamp_lift (st : Station) (b : Bool) (s : State) : (setClamp st b s).lift = s.lift := rfl
@[simp] theorem setClamp_scans (st : Station) (b : Bool) (s : State) : (setClamp st b s).scans = s.scans := rfl
@[simp] theorem setClamp_rollers (st : Station) (b : Bool) (s : State) : (setClamp st b s).rollers = s.rollers := rfl
@[simp] theorem setClamp_measurements (st : Station) (b : Bool) (s : State) : (setClamp st b s).measurements = s.measurements := rfl
@[simp] theorem setClamp_slots (st : Station) (b : Bool) (s : State) : (setClamp st b s).slots = s.slots := rfl
@[simp] theorem setClamp_disposition (st : Station) (b : Bool) (s : State) : (setClamp st b s).disposition = s.disposition := rfl
@[simp] theorem setClamp_plan (st : Station) (b : Bool) (s : State) : (setClamp st b s).plan = s.plan := rfl
@[simp] theorem setClamp_cut (st : Station) (b : Bool) (s : State) : (setClamp st b s).cut = s.cut := rfl
@[simp] theorem setClamp_config (st : Station) (b : Bool) (s : State) : (setClamp st b s).config = s.config := rfl
@[simp] theorem setClamp_ports (st : Station) (b : Bool) (s : State) : (setClamp st b s).ports = s.ports := rfl
@[simp] theorem setClamp_interlock (st : Station) (b : Bool) (s : State) : (setClamp st b s).interlock = { s.interlock with clamped := s.interlock.clamped.set st b } := rfl

/-! ## setLatch -/

@[simp] theorem setLatch_pending (b : Bool) (s : State) : (setLatch b s).pending = s.pending := rfl
@[simp] theorem setLatch_inReset (b : Bool) (s : State) : (setLatch b s).inReset = s.inReset := rfl
@[simp] theorem setLatch_straps (b : Bool) (s : State) : (setLatch b s).straps = s.straps := rfl
@[simp] theorem setLatch_store (b : Bool) (s : State) : (setLatch b s).store = s.store := rfl
@[simp] theorem setLatch_job (b : Bool) (s : State) : (setLatch b s).job = s.job := rfl
@[simp] theorem setLatch_lift (b : Bool) (s : State) : (setLatch b s).lift = s.lift := rfl
@[simp] theorem setLatch_scans (b : Bool) (s : State) : (setLatch b s).scans = s.scans := rfl
@[simp] theorem setLatch_rollers (b : Bool) (s : State) : (setLatch b s).rollers = s.rollers := rfl
@[simp] theorem setLatch_measurements (b : Bool) (s : State) : (setLatch b s).measurements = s.measurements := rfl
@[simp] theorem setLatch_slots (b : Bool) (s : State) : (setLatch b s).slots = s.slots := rfl
@[simp] theorem setLatch_disposition (b : Bool) (s : State) : (setLatch b s).disposition = s.disposition := rfl
@[simp] theorem setLatch_plan (b : Bool) (s : State) : (setLatch b s).plan = s.plan := rfl
@[simp] theorem setLatch_cut (b : Bool) (s : State) : (setLatch b s).cut = s.cut := rfl
@[simp] theorem setLatch_config (b : Bool) (s : State) : (setLatch b s).config = s.config := rfl
@[simp] theorem setLatch_ports (b : Bool) (s : State) : (setLatch b s).ports = s.ports := rfl
@[simp] theorem setLatch_interlock (b : Bool) (s : State) : (setLatch b s).interlock = { s.interlock with estopLatch := b } := rfl

/-! ## setLift -/

@[simp] theorem setLift_pending (l : Lift) (s : State) : (setLift l s).pending = s.pending := rfl
@[simp] theorem setLift_inReset (l : Lift) (s : State) : (setLift l s).inReset = s.inReset := rfl
@[simp] theorem setLift_straps (l : Lift) (s : State) : (setLift l s).straps = s.straps := rfl
@[simp] theorem setLift_interlock (l : Lift) (s : State) : (setLift l s).interlock = s.interlock := rfl
@[simp] theorem setLift_store (l : Lift) (s : State) : (setLift l s).store = s.store := rfl
@[simp] theorem setLift_job (l : Lift) (s : State) : (setLift l s).job = s.job := rfl
@[simp] theorem setLift_scans (l : Lift) (s : State) : (setLift l s).scans = s.scans := rfl
@[simp] theorem setLift_rollers (l : Lift) (s : State) : (setLift l s).rollers = s.rollers := rfl
@[simp] theorem setLift_measurements (l : Lift) (s : State) : (setLift l s).measurements = s.measurements := rfl
@[simp] theorem setLift_slots (l : Lift) (s : State) : (setLift l s).slots = s.slots := rfl
@[simp] theorem setLift_disposition (l : Lift) (s : State) : (setLift l s).disposition = s.disposition := rfl
@[simp] theorem setLift_plan (l : Lift) (s : State) : (setLift l s).plan = s.plan := rfl
@[simp] theorem setLift_cut (l : Lift) (s : State) : (setLift l s).cut = s.cut := rfl
@[simp] theorem setLift_config (l : Lift) (s : State) : (setLift l s).config = s.config := rfl
@[simp] theorem setLift_ports (l : Lift) (s : State) : (setLift l s).ports = s.ports := rfl
@[simp] theorem setLift_lift (l : Lift) (s : State) : (setLift l s).lift = l := rfl

/-! ## setContext -/

@[simp] theorem setContext_pending (st : Station) (c : CutContext) (s : State) : (setContext st c s).pending = s.pending := rfl
@[simp] theorem setContext_inReset (st : Station) (c : CutContext) (s : State) : (setContext st c s).inReset = s.inReset := rfl
@[simp] theorem setContext_straps (st : Station) (c : CutContext) (s : State) : (setContext st c s).straps = s.straps := rfl
@[simp] theorem setContext_interlock (st : Station) (c : CutContext) (s : State) : (setContext st c s).interlock = s.interlock := rfl
@[simp] theorem setContext_store (st : Station) (c : CutContext) (s : State) : (setContext st c s).store = s.store := rfl
@[simp] theorem setContext_job (st : Station) (c : CutContext) (s : State) : (setContext st c s).job = s.job := rfl
@[simp] theorem setContext_lift (st : Station) (c : CutContext) (s : State) : (setContext st c s).lift = s.lift := rfl
@[simp] theorem setContext_scans (st : Station) (c : CutContext) (s : State) : (setContext st c s).scans = s.scans := rfl
@[simp] theorem setContext_rollers (st : Station) (c : CutContext) (s : State) : (setContext st c s).rollers = s.rollers := rfl
@[simp] theorem setContext_measurements (st : Station) (c : CutContext) (s : State) : (setContext st c s).measurements = s.measurements := rfl
@[simp] theorem setContext_slots (st : Station) (c : CutContext) (s : State) : (setContext st c s).slots = s.slots := rfl
@[simp] theorem setContext_disposition (st : Station) (c : CutContext) (s : State) : (setContext st c s).disposition = s.disposition := rfl
@[simp] theorem setContext_plan (st : Station) (c : CutContext) (s : State) : (setContext st c s).plan = s.plan := rfl
@[simp] theorem setContext_config (st : Station) (c : CutContext) (s : State) : (setContext st c s).config = s.config := rfl
@[simp] theorem setContext_ports (st : Station) (c : CutContext) (s : State) : (setContext st c s).ports = s.ports := rfl
@[simp] theorem setContext_cut (st : Station) (c : CutContext) (s : State) : (setContext st c s).cut = { s.cut with contexts := s.cut.contexts.set st c } := rfl

/-! ## setStepTimer -/

@[simp] theorem setStepTimer_pending (st : Station) (t : Option Nat) (s : State) : (setStepTimer st t s).pending = s.pending := rfl
@[simp] theorem setStepTimer_inReset (st : Station) (t : Option Nat) (s : State) : (setStepTimer st t s).inReset = s.inReset := rfl
@[simp] theorem setStepTimer_straps (st : Station) (t : Option Nat) (s : State) : (setStepTimer st t s).straps = s.straps := rfl
@[simp] theorem setStepTimer_interlock (st : Station) (t : Option Nat) (s : State) : (setStepTimer st t s).interlock = s.interlock := rfl
@[simp] theorem setStepTimer_store (st : Station) (t : Option Nat) (s : State) : (setStepTimer st t s).store = s.store := rfl
@[simp] theorem setStepTimer_job (st : Station) (t : Option Nat) (s : State) : (setStepTimer st t s).job = s.job := rfl
@[simp] theorem setStepTimer_lift (st : Station) (t : Option Nat) (s : State) : (setStepTimer st t s).lift = s.lift := rfl
@[simp] theorem setStepTimer_scans (st : Station) (t : Option Nat) (s : State) : (setStepTimer st t s).scans = s.scans := rfl
@[simp] theorem setStepTimer_rollers (st : Station) (t : Option Nat) (s : State) : (setStepTimer st t s).rollers = s.rollers := rfl
@[simp] theorem setStepTimer_measurements (st : Station) (t : Option Nat) (s : State) : (setStepTimer st t s).measurements = s.measurements := rfl
@[simp] theorem setStepTimer_slots (st : Station) (t : Option Nat) (s : State) : (setStepTimer st t s).slots = s.slots := rfl
@[simp] theorem setStepTimer_disposition (st : Station) (t : Option Nat) (s : State) : (setStepTimer st t s).disposition = s.disposition := rfl
@[simp] theorem setStepTimer_plan (st : Station) (t : Option Nat) (s : State) : (setStepTimer st t s).plan = s.plan := rfl
@[simp] theorem setStepTimer_config (st : Station) (t : Option Nat) (s : State) : (setStepTimer st t s).config = s.config := rfl
@[simp] theorem setStepTimer_ports (st : Station) (t : Option Nat) (s : State) : (setStepTimer st t s).ports = s.ports := rfl
@[simp] theorem setStepTimer_cut (st : Station) (t : Option Nat) (s : State) : (setStepTimer st t s).cut = { s.cut with timers := s.cut.timers.set st t } := rfl

/-! ## setCutState -/

@[simp] theorem setCutState_pending (x : CutState) (c : Option SuspendCause) (s : State) : (setCutState x c s).pending = s.pending := rfl
@[simp] theorem setCutState_inReset (x : CutState) (c : Option SuspendCause) (s : State) : (setCutState x c s).inReset = s.inReset := rfl
@[simp] theorem setCutState_straps (x : CutState) (c : Option SuspendCause) (s : State) : (setCutState x c s).straps = s.straps := rfl
@[simp] theorem setCutState_interlock (x : CutState) (c : Option SuspendCause) (s : State) : (setCutState x c s).interlock = s.interlock := rfl
@[simp] theorem setCutState_store (x : CutState) (c : Option SuspendCause) (s : State) : (setCutState x c s).store = s.store := rfl
@[simp] theorem setCutState_job (x : CutState) (c : Option SuspendCause) (s : State) : (setCutState x c s).job = s.job := rfl
@[simp] theorem setCutState_lift (x : CutState) (c : Option SuspendCause) (s : State) : (setCutState x c s).lift = s.lift := rfl
@[simp] theorem setCutState_scans (x : CutState) (c : Option SuspendCause) (s : State) : (setCutState x c s).scans = s.scans := rfl
@[simp] theorem setCutState_rollers (x : CutState) (c : Option SuspendCause) (s : State) : (setCutState x c s).rollers = s.rollers := rfl
@[simp] theorem setCutState_measurements (x : CutState) (c : Option SuspendCause) (s : State) : (setCutState x c s).measurements = s.measurements := rfl
@[simp] theorem setCutState_slots (x : CutState) (c : Option SuspendCause) (s : State) : (setCutState x c s).slots = s.slots := rfl
@[simp] theorem setCutState_disposition (x : CutState) (c : Option SuspendCause) (s : State) : (setCutState x c s).disposition = s.disposition := rfl
@[simp] theorem setCutState_plan (x : CutState) (c : Option SuspendCause) (s : State) : (setCutState x c s).plan = s.plan := rfl
@[simp] theorem setCutState_config (x : CutState) (c : Option SuspendCause) (s : State) : (setCutState x c s).config = s.config := rfl
@[simp] theorem setCutState_ports (x : CutState) (c : Option SuspendCause) (s : State) : (setCutState x c s).ports = s.ports := rfl
@[simp] theorem setCutState_cut (x : CutState) (c : Option SuspendCause) (s : State) : (setCutState x c s).cut = { s.cut with state := x, cause := c } := rfl

/-! ## setTools -/

@[simp] theorem setTools_pending (st : Station) (t : Sides Nat) (s : State) : (setTools st t s).pending = s.pending := rfl
@[simp] theorem setTools_inReset (st : Station) (t : Sides Nat) (s : State) : (setTools st t s).inReset = s.inReset := rfl
@[simp] theorem setTools_straps (st : Station) (t : Sides Nat) (s : State) : (setTools st t s).straps = s.straps := rfl
@[simp] theorem setTools_interlock (st : Station) (t : Sides Nat) (s : State) : (setTools st t s).interlock = s.interlock := rfl
@[simp] theorem setTools_store (st : Station) (t : Sides Nat) (s : State) : (setTools st t s).store = s.store := rfl
@[simp] theorem setTools_job (st : Station) (t : Sides Nat) (s : State) : (setTools st t s).job = s.job := rfl
@[simp] theorem setTools_lift (st : Station) (t : Sides Nat) (s : State) : (setTools st t s).lift = s.lift := rfl
@[simp] theorem setTools_scans (st : Station) (t : Sides Nat) (s : State) : (setTools st t s).scans = s.scans := rfl
@[simp] theorem setTools_rollers (st : Station) (t : Sides Nat) (s : State) : (setTools st t s).rollers = s.rollers := rfl
@[simp] theorem setTools_measurements (st : Station) (t : Sides Nat) (s : State) : (setTools st t s).measurements = s.measurements := rfl
@[simp] theorem setTools_slots (st : Station) (t : Sides Nat) (s : State) : (setTools st t s).slots = s.slots := rfl
@[simp] theorem setTools_disposition (st : Station) (t : Sides Nat) (s : State) : (setTools st t s).disposition = s.disposition := rfl
@[simp] theorem setTools_plan (st : Station) (t : Sides Nat) (s : State) : (setTools st t s).plan = s.plan := rfl
@[simp] theorem setTools_config (st : Station) (t : Sides Nat) (s : State) : (setTools st t s).config = s.config := rfl
@[simp] theorem setTools_ports (st : Station) (t : Sides Nat) (s : State) : (setTools st t s).ports = s.ports := rfl
@[simp] theorem setTools_cut (st : Station) (t : Sides Nat) (s : State) : (setTools st t s).cut = { s.cut with tools := s.cut.tools.set st t } := rfl

/-! ## dropStep -/

@[simp] theorem dropStep_pending (st : Station) (s : State) : (dropStep st s).pending = s.pending := rfl
@[simp] theorem dropStep_inReset (st : Station) (s : State) : (dropStep st s).inReset = s.inReset := rfl
@[simp] theorem dropStep_straps (st : Station) (s : State) : (dropStep st s).straps = s.straps := rfl
@[simp] theorem dropStep_interlock (st : Station) (s : State) : (dropStep st s).interlock = s.interlock := rfl
@[simp] theorem dropStep_store (st : Station) (s : State) : (dropStep st s).store = s.store := rfl
@[simp] theorem dropStep_job (st : Station) (s : State) : (dropStep st s).job = s.job := rfl
@[simp] theorem dropStep_lift (st : Station) (s : State) : (dropStep st s).lift = s.lift := rfl
@[simp] theorem dropStep_scans (st : Station) (s : State) : (dropStep st s).scans = s.scans := rfl
@[simp] theorem dropStep_rollers (st : Station) (s : State) : (dropStep st s).rollers = s.rollers := rfl
@[simp] theorem dropStep_measurements (st : Station) (s : State) : (dropStep st s).measurements = s.measurements := rfl
@[simp] theorem dropStep_slots (st : Station) (s : State) : (dropStep st s).slots = s.slots := rfl
@[simp] theorem dropStep_disposition (st : Station) (s : State) : (dropStep st s).disposition = s.disposition := rfl
@[simp] theorem dropStep_plan (st : Station) (s : State) : (dropStep st s).plan = s.plan := rfl
@[simp] theorem dropStep_config (st : Station) (s : State) : (dropStep st s).config = s.config := rfl
@[simp] theorem dropStep_ports (st : Station) (s : State) : (dropStep st s).ports = s.ports := rfl

/-! ## releaseLocks -/

@[simp] theorem releaseLocks_pending (s : State) : (releaseLocks s).pending = s.pending := rfl
@[simp] theorem releaseLocks_inReset (s : State) : (releaseLocks s).inReset = s.inReset := rfl
@[simp] theorem releaseLocks_straps (s : State) : (releaseLocks s).straps = s.straps := rfl
@[simp] theorem releaseLocks_interlock (s : State) : (releaseLocks s).interlock = s.interlock := rfl
@[simp] theorem releaseLocks_store (s : State) : (releaseLocks s).store = s.store := rfl
@[simp] theorem releaseLocks_job (s : State) : (releaseLocks s).job = s.job := rfl
@[simp] theorem releaseLocks_lift (s : State) : (releaseLocks s).lift = s.lift := rfl
@[simp] theorem releaseLocks_scans (s : State) : (releaseLocks s).scans = s.scans := rfl
@[simp] theorem releaseLocks_rollers (s : State) : (releaseLocks s).rollers = s.rollers := rfl
@[simp] theorem releaseLocks_measurements (s : State) : (releaseLocks s).measurements = s.measurements := rfl
@[simp] theorem releaseLocks_disposition (s : State) : (releaseLocks s).disposition = s.disposition := rfl
@[simp] theorem releaseLocks_plan (s : State) : (releaseLocks s).plan = s.plan := rfl
@[simp] theorem releaseLocks_cut (s : State) : (releaseLocks s).cut = s.cut := rfl
@[simp] theorem releaseLocks_config (s : State) : (releaseLocks s).config = s.config := rfl
@[simp] theorem releaseLocks_ports (s : State) : (releaseLocks s).ports = s.ports := rfl
@[simp] theorem releaseLocks_slots (s : State) : (releaseLocks s).slots = s.slots.map fun x => { x with locked := false } := rfl

/-! ## clearPlan -/

@[simp] theorem clearPlan_pending (s : State) : (clearPlan s).pending = s.pending := rfl
@[simp] theorem clearPlan_inReset (s : State) : (clearPlan s).inReset = s.inReset := rfl
@[simp] theorem clearPlan_straps (s : State) : (clearPlan s).straps = s.straps := rfl
@[simp] theorem clearPlan_interlock (s : State) : (clearPlan s).interlock = s.interlock := rfl
@[simp] theorem clearPlan_store (s : State) : (clearPlan s).store = s.store := rfl
@[simp] theorem clearPlan_job (s : State) : (clearPlan s).job = s.job := rfl
@[simp] theorem clearPlan_lift (s : State) : (clearPlan s).lift = s.lift := rfl
@[simp] theorem clearPlan_scans (s : State) : (clearPlan s).scans = s.scans := rfl
@[simp] theorem clearPlan_rollers (s : State) : (clearPlan s).rollers = s.rollers := rfl
@[simp] theorem clearPlan_measurements (s : State) : (clearPlan s).measurements = s.measurements := rfl
@[simp] theorem clearPlan_slots (s : State) : (clearPlan s).slots = s.slots := rfl
@[simp] theorem clearPlan_disposition (s : State) : (clearPlan s).disposition = s.disposition := rfl
@[simp] theorem clearPlan_config (s : State) : (clearPlan s).config = s.config := rfl
@[simp] theorem clearPlan_ports (s : State) : (clearPlan s).ports = s.ports := rfl
@[simp] theorem clearPlan_plan (s : State) : (clearPlan s).plan = none := rfl

/-! ## discardPlan -/

@[simp] theorem discardPlan_pending (s : State) : (discardPlan s).pending = s.pending := rfl
@[simp] theorem discardPlan_inReset (s : State) : (discardPlan s).inReset = s.inReset := rfl
@[simp] theorem discardPlan_straps (s : State) : (discardPlan s).straps = s.straps := rfl
@[simp] theorem discardPlan_interlock (s : State) : (discardPlan s).interlock = s.interlock := rfl
@[simp] theorem discardPlan_store (s : State) : (discardPlan s).store = s.store := rfl
@[simp] theorem discardPlan_job (s : State) : (discardPlan s).job = s.job := rfl
@[simp] theorem discardPlan_lift (s : State) : (discardPlan s).lift = s.lift := rfl
@[simp] theorem discardPlan_scans (s : State) : (discardPlan s).scans = s.scans := rfl
@[simp] theorem discardPlan_rollers (s : State) : (discardPlan s).rollers = s.rollers := rfl
@[simp] theorem discardPlan_measurements (s : State) : (discardPlan s).measurements = s.measurements := rfl
@[simp] theorem discardPlan_disposition (s : State) : (discardPlan s).disposition = s.disposition := rfl
@[simp] theorem discardPlan_config (s : State) : (discardPlan s).config = s.config := rfl
@[simp] theorem discardPlan_ports (s : State) : (discardPlan s).ports = s.ports := rfl
@[simp] theorem discardPlan_plan (s : State) : (discardPlan s).plan = none := rfl

/-! ## setScan -/

@[simp] theorem setScan_pending (st : Station) (x : Scan) (s : State) : (setScan st x s).pending = s.pending := rfl
@[simp] theorem setScan_inReset (st : Station) (x : Scan) (s : State) : (setScan st x s).inReset = s.inReset := rfl
@[simp] theorem setScan_straps (st : Station) (x : Scan) (s : State) : (setScan st x s).straps = s.straps := rfl
@[simp] theorem setScan_interlock (st : Station) (x : Scan) (s : State) : (setScan st x s).interlock = s.interlock := rfl
@[simp] theorem setScan_store (st : Station) (x : Scan) (s : State) : (setScan st x s).store = s.store := rfl
@[simp] theorem setScan_job (st : Station) (x : Scan) (s : State) : (setScan st x s).job = s.job := rfl
@[simp] theorem setScan_lift (st : Station) (x : Scan) (s : State) : (setScan st x s).lift = s.lift := rfl
@[simp] theorem setScan_rollers (st : Station) (x : Scan) (s : State) : (setScan st x s).rollers = s.rollers := rfl
@[simp] theorem setScan_measurements (st : Station) (x : Scan) (s : State) : (setScan st x s).measurements = s.measurements := rfl
@[simp] theorem setScan_slots (st : Station) (x : Scan) (s : State) : (setScan st x s).slots = s.slots := rfl
@[simp] theorem setScan_disposition (st : Station) (x : Scan) (s : State) : (setScan st x s).disposition = s.disposition := rfl
@[simp] theorem setScan_plan (st : Station) (x : Scan) (s : State) : (setScan st x s).plan = s.plan := rfl
@[simp] theorem setScan_cut (st : Station) (x : Scan) (s : State) : (setScan st x s).cut = s.cut := rfl
@[simp] theorem setScan_config (st : Station) (x : Scan) (s : State) : (setScan st x s).config = s.config := rfl
@[simp] theorem setScan_ports (st : Station) (x : Scan) (s : State) : (setScan st x s).ports = s.ports := rfl
@[simp] theorem setScan_scans (st : Station) (x : Scan) (s : State) : (setScan st x s).scans = s.scans.set st x := rfl

/-! ## stopScan -/

@[simp] theorem stopScan_pending (st : Station) (s : State) : (stopScan st s).pending = s.pending := rfl
@[simp] theorem stopScan_inReset (st : Station) (s : State) : (stopScan st s).inReset = s.inReset := rfl
@[simp] theorem stopScan_straps (st : Station) (s : State) : (stopScan st s).straps = s.straps := rfl
@[simp] theorem stopScan_interlock (st : Station) (s : State) : (stopScan st s).interlock = s.interlock := rfl
@[simp] theorem stopScan_store (st : Station) (s : State) : (stopScan st s).store = s.store := rfl
@[simp] theorem stopScan_job (st : Station) (s : State) : (stopScan st s).job = s.job := rfl
@[simp] theorem stopScan_lift (st : Station) (s : State) : (stopScan st s).lift = s.lift := rfl
@[simp] theorem stopScan_rollers (st : Station) (s : State) : (stopScan st s).rollers = s.rollers := rfl
@[simp] theorem stopScan_measurements (st : Station) (s : State) : (stopScan st s).measurements = s.measurements := rfl
@[simp] theorem stopScan_slots (st : Station) (s : State) : (stopScan st s).slots = s.slots := rfl
@[simp] theorem stopScan_disposition (st : Station) (s : State) : (stopScan st s).disposition = s.disposition := rfl
@[simp] theorem stopScan_plan (st : Station) (s : State) : (stopScan st s).plan = s.plan := rfl
@[simp] theorem stopScan_cut (st : Station) (s : State) : (stopScan st s).cut = s.cut := rfl
@[simp] theorem stopScan_config (st : Station) (s : State) : (stopScan st s).config = s.config := rfl
@[simp] theorem stopScan_ports (st : Station) (s : State) : (stopScan st s).ports = s.ports := rfl

/-! ## setMeasurement -/

@[simp] theorem setMeasurement_pending (st : Station) (m : Measurement) (s : State) : (setMeasurement st m s).pending = s.pending := rfl
@[simp] theorem setMeasurement_inReset (st : Station) (m : Measurement) (s : State) : (setMeasurement st m s).inReset = s.inReset := rfl
@[simp] theorem setMeasurement_straps (st : Station) (m : Measurement) (s : State) : (setMeasurement st m s).straps = s.straps := rfl
@[simp] theorem setMeasurement_interlock (st : Station) (m : Measurement) (s : State) : (setMeasurement st m s).interlock = s.interlock := rfl
@[simp] theorem setMeasurement_store (st : Station) (m : Measurement) (s : State) : (setMeasurement st m s).store = s.store := rfl
@[simp] theorem setMeasurement_job (st : Station) (m : Measurement) (s : State) : (setMeasurement st m s).job = s.job := rfl
@[simp] theorem setMeasurement_lift (st : Station) (m : Measurement) (s : State) : (setMeasurement st m s).lift = s.lift := rfl
@[simp] theorem setMeasurement_scans (st : Station) (m : Measurement) (s : State) : (setMeasurement st m s).scans = s.scans := rfl
@[simp] theorem setMeasurement_rollers (st : Station) (m : Measurement) (s : State) : (setMeasurement st m s).rollers = s.rollers := rfl
@[simp] theorem setMeasurement_slots (st : Station) (m : Measurement) (s : State) : (setMeasurement st m s).slots = s.slots := rfl
@[simp] theorem setMeasurement_disposition (st : Station) (m : Measurement) (s : State) : (setMeasurement st m s).disposition = s.disposition := rfl
@[simp] theorem setMeasurement_plan (st : Station) (m : Measurement) (s : State) : (setMeasurement st m s).plan = s.plan := rfl
@[simp] theorem setMeasurement_cut (st : Station) (m : Measurement) (s : State) : (setMeasurement st m s).cut = s.cut := rfl
@[simp] theorem setMeasurement_config (st : Station) (m : Measurement) (s : State) : (setMeasurement st m s).config = s.config := rfl
@[simp] theorem setMeasurement_ports (st : Station) (m : Measurement) (s : State) : (setMeasurement st m s).ports = s.ports := rfl
@[simp] theorem setMeasurement_measurements (st : Station) (m : Measurement) (s : State) : (setMeasurement st m s).measurements = s.measurements.set st m := rfl

/-! ## resetMeasurements -/

@[simp] theorem resetMeasurements_pending (s : State) : (resetMeasurements s).pending = s.pending := rfl
@[simp] theorem resetMeasurements_inReset (s : State) : (resetMeasurements s).inReset = s.inReset := rfl
@[simp] theorem resetMeasurements_straps (s : State) : (resetMeasurements s).straps = s.straps := rfl
@[simp] theorem resetMeasurements_interlock (s : State) : (resetMeasurements s).interlock = s.interlock := rfl
@[simp] theorem resetMeasurements_store (s : State) : (resetMeasurements s).store = s.store := rfl
@[simp] theorem resetMeasurements_job (s : State) : (resetMeasurements s).job = s.job := rfl
@[simp] theorem resetMeasurements_lift (s : State) : (resetMeasurements s).lift = s.lift := rfl
@[simp] theorem resetMeasurements_scans (s : State) : (resetMeasurements s).scans = s.scans := rfl
@[simp] theorem resetMeasurements_rollers (s : State) : (resetMeasurements s).rollers = s.rollers := rfl
@[simp] theorem resetMeasurements_slots (s : State) : (resetMeasurements s).slots = s.slots := rfl
@[simp] theorem resetMeasurements_disposition (s : State) : (resetMeasurements s).disposition = s.disposition := rfl
@[simp] theorem resetMeasurements_plan (s : State) : (resetMeasurements s).plan = s.plan := rfl
@[simp] theorem resetMeasurements_cut (s : State) : (resetMeasurements s).cut = s.cut := rfl
@[simp] theorem resetMeasurements_config (s : State) : (resetMeasurements s).config = s.config := rfl
@[simp] theorem resetMeasurements_ports (s : State) : (resetMeasurements s).ports = s.ports := rfl
@[simp] theorem resetMeasurements_measurements (s : State) : (resetMeasurements s).measurements = ⟨.reset, .reset⟩ := rfl

/-! ## clearJob -/

@[simp] theorem clearJob_pending (s : State) : (clearJob s).pending = s.pending := rfl
@[simp] theorem clearJob_inReset (s : State) : (clearJob s).inReset = s.inReset := rfl
@[simp] theorem clearJob_straps (s : State) : (clearJob s).straps = s.straps := rfl
@[simp] theorem clearJob_interlock (s : State) : (clearJob s).interlock = s.interlock := rfl
@[simp] theorem clearJob_store (s : State) : (clearJob s).store = s.store := rfl
@[simp] theorem clearJob_lift (s : State) : (clearJob s).lift = s.lift := rfl
@[simp] theorem clearJob_scans (s : State) : (clearJob s).scans = s.scans := rfl
@[simp] theorem clearJob_rollers (s : State) : (clearJob s).rollers = s.rollers := rfl
@[simp] theorem clearJob_measurements (s : State) : (clearJob s).measurements = s.measurements := rfl
@[simp] theorem clearJob_slots (s : State) : (clearJob s).slots = s.slots := rfl
@[simp] theorem clearJob_disposition (s : State) : (clearJob s).disposition = s.disposition := rfl
@[simp] theorem clearJob_plan (s : State) : (clearJob s).plan = s.plan := rfl
@[simp] theorem clearJob_cut (s : State) : (clearJob s).cut = s.cut := rfl
@[simp] theorem clearJob_config (s : State) : (clearJob s).config = s.config := rfl
@[simp] theorem clearJob_ports (s : State) : (clearJob s).ports = s.ports := rfl
@[simp] theorem clearJob_job (s : State) : (clearJob s).job = none := rfl

/-! ## setSlot -/

@[simp] theorem setSlot_pending (i : Nat) (x : Slot) (s : State) : (setSlot i x s).pending = s.pending := rfl
@[simp] theorem setSlot_inReset (i : Nat) (x : Slot) (s : State) : (setSlot i x s).inReset = s.inReset := rfl
@[simp] theorem setSlot_straps (i : Nat) (x : Slot) (s : State) : (setSlot i x s).straps = s.straps := rfl
@[simp] theorem setSlot_interlock (i : Nat) (x : Slot) (s : State) : (setSlot i x s).interlock = s.interlock := rfl
@[simp] theorem setSlot_store (i : Nat) (x : Slot) (s : State) : (setSlot i x s).store = s.store := rfl
@[simp] theorem setSlot_job (i : Nat) (x : Slot) (s : State) : (setSlot i x s).job = s.job := rfl
@[simp] theorem setSlot_lift (i : Nat) (x : Slot) (s : State) : (setSlot i x s).lift = s.lift := rfl
@[simp] theorem setSlot_scans (i : Nat) (x : Slot) (s : State) : (setSlot i x s).scans = s.scans := rfl
@[simp] theorem setSlot_rollers (i : Nat) (x : Slot) (s : State) : (setSlot i x s).rollers = s.rollers := rfl
@[simp] theorem setSlot_measurements (i : Nat) (x : Slot) (s : State) : (setSlot i x s).measurements = s.measurements := rfl
@[simp] theorem setSlot_disposition (i : Nat) (x : Slot) (s : State) : (setSlot i x s).disposition = s.disposition := rfl
@[simp] theorem setSlot_plan (i : Nat) (x : Slot) (s : State) : (setSlot i x s).plan = s.plan := rfl
@[simp] theorem setSlot_cut (i : Nat) (x : Slot) (s : State) : (setSlot i x s).cut = s.cut := rfl
@[simp] theorem setSlot_config (i : Nat) (x : Slot) (s : State) : (setSlot i x s).config = s.config := rfl
@[simp] theorem setSlot_ports (i : Nat) (x : Slot) (s : State) : (setSlot i x s).ports = s.ports := rfl
@[simp] theorem setSlot_slots (i : Nat) (x : Slot) (s : State) : (setSlot i x s).slots = s.slots.setIfInBounds i x := rfl

/-! ## postCutState -/

@[simp] theorem postCutState_pending (b : CutState) (r : PerStation StepReport) (s : State) : (postCutState b r s).pending = s.pending := rfl
@[simp] theorem postCutState_inReset (b : CutState) (r : PerStation StepReport) (s : State) : (postCutState b r s).inReset = s.inReset := rfl
@[simp] theorem postCutState_straps (b : CutState) (r : PerStation StepReport) (s : State) : (postCutState b r s).straps = s.straps := rfl
@[simp] theorem postCutState_interlock (b : CutState) (r : PerStation StepReport) (s : State) : (postCutState b r s).interlock = s.interlock := rfl
@[simp] theorem postCutState_store (b : CutState) (r : PerStation StepReport) (s : State) : (postCutState b r s).store = s.store := rfl
@[simp] theorem postCutState_job (b : CutState) (r : PerStation StepReport) (s : State) : (postCutState b r s).job = s.job := rfl
@[simp] theorem postCutState_lift (b : CutState) (r : PerStation StepReport) (s : State) : (postCutState b r s).lift = s.lift := rfl
@[simp] theorem postCutState_scans (b : CutState) (r : PerStation StepReport) (s : State) : (postCutState b r s).scans = s.scans := rfl
@[simp] theorem postCutState_rollers (b : CutState) (r : PerStation StepReport) (s : State) : (postCutState b r s).rollers = s.rollers := rfl
@[simp] theorem postCutState_measurements (b : CutState) (r : PerStation StepReport) (s : State) : (postCutState b r s).measurements = s.measurements := rfl
@[simp] theorem postCutState_slots (b : CutState) (r : PerStation StepReport) (s : State) : (postCutState b r s).slots = s.slots := rfl
@[simp] theorem postCutState_disposition (b : CutState) (r : PerStation StepReport) (s : State) : (postCutState b r s).disposition = s.disposition := rfl
@[simp] theorem postCutState_plan (b : CutState) (r : PerStation StepReport) (s : State) : (postCutState b r s).plan = s.plan := rfl
@[simp] theorem postCutState_cut (b : CutState) (r : PerStation StepReport) (s : State) : (postCutState b r s).cut = s.cut := rfl
@[simp] theorem postCutState_config (b : CutState) (r : PerStation StepReport) (s : State) : (postCutState b r s).config = s.config := rfl

/-! ## postScanDone -/

@[simp] theorem postScanDone_pending (st : Station) (s : State) : (postScanDone st s).pending = s.pending := rfl
@[simp] theorem postScanDone_inReset (st : Station) (s : State) : (postScanDone st s).inReset = s.inReset := rfl
@[simp] theorem postScanDone_straps (st : Station) (s : State) : (postScanDone st s).straps = s.straps := rfl
@[simp] theorem postScanDone_interlock (st : Station) (s : State) : (postScanDone st s).interlock = s.interlock := rfl
@[simp] theorem postScanDone_store (st : Station) (s : State) : (postScanDone st s).store = s.store := rfl
@[simp] theorem postScanDone_job (st : Station) (s : State) : (postScanDone st s).job = s.job := rfl
@[simp] theorem postScanDone_lift (st : Station) (s : State) : (postScanDone st s).lift = s.lift := rfl
@[simp] theorem postScanDone_scans (st : Station) (s : State) : (postScanDone st s).scans = s.scans := rfl
@[simp] theorem postScanDone_rollers (st : Station) (s : State) : (postScanDone st s).rollers = s.rollers := rfl
@[simp] theorem postScanDone_measurements (st : Station) (s : State) : (postScanDone st s).measurements = s.measurements := rfl
@[simp] theorem postScanDone_slots (st : Station) (s : State) : (postScanDone st s).slots = s.slots := rfl
@[simp] theorem postScanDone_disposition (st : Station) (s : State) : (postScanDone st s).disposition = s.disposition := rfl
@[simp] theorem postScanDone_plan (st : Station) (s : State) : (postScanDone st s).plan = s.plan := rfl
@[simp] theorem postScanDone_cut (st : Station) (s : State) : (postScanDone st s).cut = s.cut := rfl
@[simp] theorem postScanDone_config (st : Station) (s : State) : (postScanDone st s).config = s.config := rfl

/-! ## postLiftDone -/

@[simp] theorem postLiftDone_pending (o : LiftOutcome) (m : Move) (c : Option HaltCause) (s : State) : (postLiftDone o m c s).pending = s.pending := rfl
@[simp] theorem postLiftDone_inReset (o : LiftOutcome) (m : Move) (c : Option HaltCause) (s : State) : (postLiftDone o m c s).inReset = s.inReset := rfl
@[simp] theorem postLiftDone_straps (o : LiftOutcome) (m : Move) (c : Option HaltCause) (s : State) : (postLiftDone o m c s).straps = s.straps := rfl
@[simp] theorem postLiftDone_interlock (o : LiftOutcome) (m : Move) (c : Option HaltCause) (s : State) : (postLiftDone o m c s).interlock = s.interlock := rfl
@[simp] theorem postLiftDone_store (o : LiftOutcome) (m : Move) (c : Option HaltCause) (s : State) : (postLiftDone o m c s).store = s.store := rfl
@[simp] theorem postLiftDone_job (o : LiftOutcome) (m : Move) (c : Option HaltCause) (s : State) : (postLiftDone o m c s).job = s.job := rfl
@[simp] theorem postLiftDone_lift (o : LiftOutcome) (m : Move) (c : Option HaltCause) (s : State) : (postLiftDone o m c s).lift = s.lift := rfl
@[simp] theorem postLiftDone_scans (o : LiftOutcome) (m : Move) (c : Option HaltCause) (s : State) : (postLiftDone o m c s).scans = s.scans := rfl
@[simp] theorem postLiftDone_rollers (o : LiftOutcome) (m : Move) (c : Option HaltCause) (s : State) : (postLiftDone o m c s).rollers = s.rollers := rfl
@[simp] theorem postLiftDone_measurements (o : LiftOutcome) (m : Move) (c : Option HaltCause) (s : State) : (postLiftDone o m c s).measurements = s.measurements := rfl
@[simp] theorem postLiftDone_slots (o : LiftOutcome) (m : Move) (c : Option HaltCause) (s : State) : (postLiftDone o m c s).slots = s.slots := rfl
@[simp] theorem postLiftDone_disposition (o : LiftOutcome) (m : Move) (c : Option HaltCause) (s : State) : (postLiftDone o m c s).disposition = s.disposition := rfl
@[simp] theorem postLiftDone_plan (o : LiftOutcome) (m : Move) (c : Option HaltCause) (s : State) : (postLiftDone o m c s).plan = s.plan := rfl
@[simp] theorem postLiftDone_cut (o : LiftOutcome) (m : Move) (c : Option HaltCause) (s : State) : (postLiftDone o m c s).cut = s.cut := rfl
@[simp] theorem postLiftDone_config (o : LiftOutcome) (m : Move) (c : Option HaltCause) (s : State) : (postLiftDone o m c s).config = s.config := rfl

end Sys2Proof.Machine
end

