-- ==== Sys2Proof/Laws/Ops.lean ====
section
/-! SUPPORT. The small facts of the containers, of whole-number rounding and of the history ring. -/

namespace Sys2Proof.Machine

/-! ## Containers -/

@[simp] theorem PerStation.get_set_same {α : Type} (p : PerStation α) (st : Station) (a : α) :
    (p.set st a).get st = a := by cases st <;> rfl

theorem PerStation.get_set_other {α : Type} (p : PerStation α) {st st' : Station} (h : st' ≠ st) (a : α) :
    (p.set st a).get st' = p.get st' := by cases st <;> cases st' <;> first | rfl | exact absurd rfl h

@[simp] theorem PerStation.set_get {α : Type} (p : PerStation α) (st : Station) : p.set st (p.get st) = p := by
  cases st <;> rfl

@[simp] theorem PerStation.get_map {α β : Type} (f : α → β) (p : PerStation α) (st : Station) :
    (p.map f).get st = f (p.get st) := by cases st <;> rfl

@[simp] theorem Sides.get_set_same {α : Type} (p : Sides α) (sd : Side) (a : α) : (p.set sd a).get sd = a := by
  cases sd <;> rfl

theorem Sides.get_set_other {α : Type} (p : Sides α) {sd sd' : Side} (h : sd' ≠ sd) (a : α) :
    (p.set sd a).get sd' = p.get sd' := by cases sd <;> cases sd' <;> first | rfl | exact absurd rfl h

@[simp] theorem Sides.set_get {α : Type} (p : Sides α) (sd : Side) : p.set sd (p.get sd) = p := by cases sd <;> rfl

@[simp] theorem Sides.get_map {α β : Type} (f : α → β) (p : Sides α) (sd : Side) :
    (p.map f).get sd = f (p.get sd) := by cases sd <;> rfl

@[simp] theorem Ports.get_set_same (p : Ports) (id : PortId) (q : Port) : (p.set id q).get id = q := by
  cases id <;> rfl

theorem Ports.get_set_other (p : Ports) {id id' : PortId} (h : id' ≠ id) (q : Port) :
    (p.set id q).get id' = p.get id' := by cases id <;> cases id' <;> first | rfl | exact absurd rfl h

@[simp] theorem Ports.set_get (p : Ports) (id : PortId) : p.set id (p.get id) = p := by cases id <;> rfl

@[simp] theorem Ports.set_set (p : Ports) (id : PortId) (q q' : Port) : (p.set id q).set id q' = p.set id q' := by
  cases id <;> rfl

@[simp] theorem State.setPort_setPort (s : State) (id : PortId) (q q' : Port) :
    (s.setPort id q).setPort id q' = s.setPort id q' := by simp [State.setPort]

@[simp] theorem State.setPort_get (s : State) (id : PortId) : s.setPort id (s.ports.get id) = s := by
  simp [State.setPort]

/-! ## Clamping -/

theorem clampInt_within (lo hi n : Int) (h : lo ≤ hi) : lo ≤ clampInt lo hi n ∧ clampInt lo hi n ≤ hi := by
  unfold clampInt; split
  · exact ⟨Int.le_refl _, h⟩
  · split <;> omega

theorem clampInt_of_within (lo hi n : Int) (h : lo ≤ n ∧ n ≤ hi) : clampInt lo hi n = n := by
  unfold clampInt; split
  · omega
  · split <;> omega

/-! ## Optional items (R202) -/

@[simp] theorem optionalBytes_some {α : Type} (width : Nat) (f : α → List Byte) (a : α) :
    optionalBytes width f (some a) = oneByte 1 ++ f a := rfl

@[simp] theorem optionalBytes_none {α : Type} (width : Nat) (f : α → List Byte) :
    optionalBytes width f none = bytesOf (width + 1) 0 := rfl

/-! ## The history ring (R32) -/

/-- A ring never holds more than 12 events. -/
theorem ringAppend_length (h : List HistoryEvent) (e : HistoryEvent) :
    (ringAppend h e).length = min (h.length + 1) 12 := by
  simp [ringAppend, historyLimit]; omega

/-- A ring that is not full keeps its events. -/
theorem ringAppend_room (h : List HistoryEvent) (e : HistoryEvent) (room : h.length < 12) :
    ringAppend h e = h ++ [e] := by
  unfold ringAppend historyLimit
  rw [show (h ++ [e]).length - 12 = 0 by simp; omega]; rfl

/-- A full ring loses its oldest event. -/
theorem ringAppend_full (o : HistoryEvent) (h : List HistoryEvent) (e : HistoryEvent) (full : h.length = 11) :
    ringAppend (o :: h) e = h ++ [e] := by
  unfold ringAppend historyLimit
  rw [show ((o :: h) ++ [e]).length - 12 = 1 by simp; omega]; rfl

/-! ## The cause set (R13) -/

@[simp] theorem CauseSet.nonempty_add (c : CauseSet) (h : HaltCause) : (c.add h).nonempty = true := by
  cases h <;> simp [CauseSet.add, CauseSet.nonempty]

@[simp] theorem CauseSet.nonempty_only (h : HaltCause) : (CauseSet.only h).nonempty = true := by
  simp [CauseSet.only]

@[simp] theorem CauseSet.nonempty_none : CauseSet.none.nonempty = false := rfl

theorem CauseSet.has_add (c : CauseSet) (h k : HaltCause) : (c.add h).has k = (decide (h = k) || c.has k) := by
  cases h <;> cases k <;> simp [CauseSet.add, CauseSet.has]

/-! ## Folding -/

/-- An identity that folds has 1 to 32 bytes (R22). -/
theorem fold_length {bs : List Byte} {x : Folded} (folds : fold bs = some x) : 1 ≤ bs.length ∧ bs.length ≤ 32 := by
  simp only [fold] at folds
  split at folds
  · cases folds
  · omega

end Sys2Proof.Machine
end

