-- ==== Sys2Proof/Laws/Link.lean ====
section
/-! SUPPORT. What a command does as a whole: the frame of every event, the taking of a request, and the notices. -/

namespace Sys2Proof.Machine

/-! ## Events -/

/-- Outside reset an event is taken and the idle transmitters choose. -/
theorem takeEvent_released (f : State → State) (s : State) (h : s.inReset = false) :
    takeEvent f s = .next (startTransmitters (f s)) := by simp [takeEvent, h]

/-- While reset is asserted no event is taken. -/
theorem takeEvent_inReset (f : State → State) (s : State) (h : s.inReset = true) : takeEvent f s = .next s := by
  simp [takeEvent, h]

/-- Every event answers a next state. -/
theorem takeEvent_next (f : State → State) (s : State) : ∃ t, takeEvent f s = .next t := by
  unfold takeEvent; split <;> exact ⟨_, rfl⟩

/-! ## Requests -/

/-- A request command is the arrival of its request at its port. -/
theorem exec_request {i : Instr} {port : PortId} {w : Waiting} (h : requestOf i = some (port, w)) (s : State) :
    exec i s = takeEvent (offerRequest port w) s := by
  cases i <;> simp [requestOf] at h <;> (obtain ⟨rfl, rfl⟩ := h; rfl)

/-- At a port that is ready the request is taken at once. -/
theorem exec_ready {i : Instr} {port : PortId} {w : Waiting} (h : requestOf i = some (port, w)) (s : State)
    (ready : PortReady port s) : exec i s = .next (startTransmitters (takeRequest port w s)) := by
  rw [exec_request h, takeEvent_released _ _ ready.1]
  simp [offerRequest, ready.2.1, ready.2.2]

/-- A request that names an owner and suits the role of its port is served by its owner. -/
theorem serveRequest_allowed (port : PortId) (r : Request) (s : State) (known : ∀ c, r ≠ .unknownCode c)
    (allowed : roleAllows r.code port = true) : serveRequest port r s = serveOwner port r s := by
  cases r <;> first | exact absurd rfl (known _) | (simp [serveRequest, allowed])

/-- A request that the role of its port does not allow is answered ROLE and changes nothing. -/
theorem serveRequest_refused (port : PortId) (r : Request) (s : State) (known : ∀ c, r ≠ .unknownCode c)
    (refused : roleAllows r.code port = false) : serveRequest port r s = refuse .role s := by
  cases r <;> first | exact absurd rfl (known _) | (simp [serveRequest, refused])

/-- A REQUEST frame with a good CRC does what `requestFrameTaken` says, once the receiver hunts again. -/
theorem completeFrame_request (port : PortId) (frameType code tag : Byte) (payload : List Byte) (s : State)
    (request : isRequestType frameType = true) :
    completeFrame port frameType code tag payload s
      = requestFrameTaken port frameType code tag payload
          (s.setPort port { s.ports.get port with receive := .hunting, received := [], gapTimer := none }) := by
  have twice : ∀ a b : Port, (s.setPort port a).setPort port b = s.setPort port b := by
    intro a b; cases port <;> rfl
  have got : ∀ a : Port, (s.setPort port a).ports.get port = a := by intro a; cases port <;> rfl
  unfold completeFrame requestFrameTaken takeWhole
  simp only [request, Bool.not_true, Bool.false_eq_true, if_false, got, twice, matchesPart, isContinued, setFraming,
    maxPayload, byteGap]
  cases held : (s.ports.get port).held <;> cases continued : frameType.getLsbD 6 <;> simp
  split <;> split <;> simp_all

/-! ## Notices -/

@[simp] theorem postAll_nil (s : State) : postAll [] s = s := rfl

@[simp] theorem postAll_cons (n : NoticeBody) (ns : List NoticeBody) (s : State) :
    postAll (n :: ns) s = postAll ns (post n s) := rfl

theorem postAll_append (a b : List NoticeBody) (s : State) : postAll (a ++ b) s = postAll b (postAll a s) := by
  simp [postAll]

/-- A notice leaves the restart mark of every port. -/
@[simp] theorem post_restart (n : NoticeBody) (s : State) (id : PortId) :
    ((post n s).ports.get id).restart = (s.ports.get id).restart := by
  cases id <;> simp only [post, Ports.get] <;> split <;> simp only [postToPort] <;> split <;> rfl

/-- A notice leaves the buffer and the reply slot of every port. -/
@[simp] theorem post_bufferReply (n : NoticeBody) (s : State) (id : PortId) :
    ((post n s).ports.get id).buffer = (s.ports.get id).buffer
      ∧ ((post n s).ports.get id).reply = (s.ports.get id).reply := by
  cases id <;> unfold post <;> dsimp only [Ports.get] <;> split <;>
    first | exact ⟨rfl, rfl⟩ | (unfold postToPort; dsimp only; split <;> exact ⟨rfl, rfl⟩)

/-- A queue that is within its limit stays within it. -/
theorem postToPort_bounded (q : Port) (n : NoticeBody) (h : q.queue.length ≤ 8) :
    (postToPort q n).queue.length ≤ 8 := by
  unfold postToPort queueLimit
  split <;> simp <;> omega

/-- Starting a transmitter never lengthens a queue. -/
theorem startPort_queue (q : Port) : (startPort q).queue.length ≤ q.queue.length := by
  unfold startPort
  split
  · split
    · exact Nat.le_refl _
    · split
      · rename_i h; simp [h]
      · exact Nat.le_refl _
  · exact Nat.le_refl _

theorem postAll_restart (ns : List NoticeBody) (s : State) (id : PortId) :
    ((postAll ns s).ports.get id).restart = (s.ports.get id).restart := by
  induction ns generalizing s with
  | nil => rfl
  | cons n ns ih => rw [postAll_cons, ih, post_restart]

/-! ## The end of a request -/

/-- A served request whose state is a change of everything but the ports, followed by notices, ends as `carriedOut`
says. -/
theorem takeRequest_carriedOut {port : PortId} {w : Waiting} {s y : State} {a : Answer} {ns : List NoticeBody}
    (served : serveRequest port w.request s = (postAll ns y, a)) (kept : y.ports = s.ports) :
    startTransmitters (takeRequest port w s) = carriedOut port w.tag w.request.code a ns y := by
  simp only [takeRequest, served, carriedOut, replyTo, kept]

/-- The whole of a request command at a ready port. -/
theorem exec_carriedOut {i : Instr} {port : PortId} {w : Waiting} {s y : State} {a : Answer}
    {ns : List NoticeBody} (h : requestOf i = some (port, w)) (ready : PortReady port s)
    (served : serveRequest port w.request s = (postAll ns y, a)) (kept : y.ports = s.ports) :
    exec i s = .next (carriedOut port w.tag w.request.code a ns y) := by
  rw [exec_ready h s ready, takeRequest_carriedOut served kept]

/-- A request that is refused changes nothing but the port that answers it. -/
theorem exec_refused {i : Instr} {port : PortId} {w : Waiting} {s : State} {a : Answer}
    (h : requestOf i = some (port, w)) (ready : PortReady port s)
    (served : serveRequest port w.request s = (s, a)) :
    exec i s = .next (carriedOut port w.tag w.request.code a [] s) :=
  exec_carriedOut h ready (ns := []) (by simpa using served) rfl

end Sys2Proof.Machine
end

