-- ==== Sys2Proof/Laws/Interlock.lean ====
section
/-! SUPPORT. The derivation of the phase and the halt: what they do, for the statements and invariants about the Pit
Interlock. -/

namespace Sys2Proof.Machine

/-- A derivation that names a phase holds it. -/
theorem rederive_hold {s : State} {p : Phase} (h : derivedPhase s = some p) : rederive s = holdPhase p s := by
  simp [rederive, h]

/-- A derivation that names none halts the pit with cause SUPPORT (R4). -/
theorem rederive_support {s : State} (h : derivedPhase s = none) : rederive s = halt .support s := by
  simp [rederive, h]

/-- A cause in the set derives HALTED (R1, case 1). -/
theorem derivedPhase_halted {s : State} (h : s.interlock.causes.nonempty = true) : derivedPhase s = some .halted := by
  simp [derivedPhase, h]

/-- No cause and no job derive IDLE (R1, case 2). -/
theorem derivedPhase_idle {s : State} (h : s.interlock.causes.nonempty = false) (j : s.job = none) :
    derivedPhase s = some .idle := by simp [derivedPhase, h, j]

/-- Holding the phase that stands posts nothing and only drives the permits. -/
theorem holdPhase_same (s : State) : holdPhase s.interlock.phase s = drivePermits s := by
  simp [holdPhase, postIf, setPhase]

/-- Where the permits follow, driving them changes nothing. -/
theorem drivePermits_steady {s : State} (follow : PermitsFollow s) : drivePermits s = s := by
  have value : ∀ st, permitValue s st = s.interlock.permits.get st := by
    intro st
    rw [Bool.eq_iff_iff, follow st]
    simp [permitValue]
  have one := value .one
  have two := value .two
  simp only [PerStation.get] at one two
  simp only [drivePermits, one, two]

/-- Where the phase held is the one derived and the permits follow, the derivation changes nothing. -/
theorem rederive_steady {s : State} (derived : PhaseDerived s) (follow : PermitsFollow s) : rederive s = s := by
  rw [rederive_hold derived, holdPhase_same, drivePermits_steady follow]

/-- Holding another phase posts PHASE. -/
theorem holdPhase_other {s : State} {p : Phase} (h : p ≠ s.interlock.phase) :
    holdPhase p s = post (.phase s.interlock.phase p) (setPhase p s) := by
  simp [holdPhase, postIf, h]

@[simp] theorem holdPhase_phase (p : Phase) (s : State) : (holdPhase p s).interlock.phase = p := by
  unfold holdPhase postIf; split <;> rfl

@[simp] theorem holdPhase_causes (p : Phase) (s : State) :
    (holdPhase p s).interlock.causes = s.interlock.causes := by unfold holdPhase postIf; split <;> rfl

@[simp] theorem setPhase_interlock (p : Phase) (s : State) :
    (setPhase p s).interlock.phase = p ∧ (setPhase p s).interlock.causes = s.interlock.causes
      ∧ (setPhase p s).interlock.clamped = s.interlock.clamped
      ∧ (setPhase p s).interlock.estopLatch = s.interlock.estopLatch := ⟨rfl, rfl, rfl, rfl⟩

/-- Holding a phase changes the phase, the permits and the ports alone. -/
theorem holdPhase_frame (p : Phase) (s : State) :
    holdPhase p s = { s with interlock := (setPhase p s).interlock, ports := (holdPhase p s).ports } := by
  unfold holdPhase postIf; split <;> rfl

@[simp] theorem suspendIfRunning_interlock (c : SuspendCause) (s : State) :
    (suspendIfRunning c s).interlock = s.interlock := by unfold suspendIfRunning; split <;> rfl

@[simp] theorem haltSteps_interlock (s : State) : (haltSteps s).interlock = s.interlock := by
  unfold haltSteps
  split
  · simp only [suspendIfRunning_interlock]
    split <;> split <;> rfl
  · rfl

@[simp] theorem endScan_interlock (st : Station) (c : EndCause) (s : State) :
    (endScan st c s).interlock = s.interlock := by unfold endScan; split <;> rfl

@[simp] theorem haltScans_interlock (s : State) : (haltScans s).interlock = s.interlock := by
  simp [haltScans]

/-- A halt leaves the pit HALTED with the one cause and both permits down, and keeps the clamps and the latch (R11). -/
theorem halt_interlock (c : HaltCause) (s : State) :
    (halt c s).interlock = { s.interlock with phase := .halted, causes := .only c, permits := ⟨false, false⟩ } := by
  have h : (haltScans (haltSteps (enterHalt c s))).interlock
      = { s.interlock with phase := .halted, causes := .only c, permits := ⟨false, false⟩ } := by
    simp only [haltScans_interlock, haltSteps_interlock]
    simp [enterHalt, setPhase, drivePermits, permitValue]
  unfold halt
  simp only [postIf]
  split <;> split <;> split <;> split <;> simpa using h

/-- After any derivation the phase is HALTED exactly while a cause stands (R13). -/
theorem rederive_haltedByCauses (s : State) : HaltedByCauses (rederive s) := by
  unfold HaltedByCauses
  cases h : derivedPhase s with
  | none => rw [rederive_support h, halt_interlock]; simp
  | some p =>
    rw [rederive_hold h]
    simp only [holdPhase_phase, holdPhase_causes]
    revert h
    unfold derivedPhase
    split
    · intro h; cases h; simp_all
    · split
      · intro h; cases h; simp_all
      · split
        · split
          · intro h; cases h
          · intro h; cases h; simp_all
        · split
          · intro h; cases h; simp_all
          · split <;> (intro h; cases h; simp_all)

end Sys2Proof.Machine
end

