-- ==== Sys2Proof/Laws/PerInstr.lean ====
section
/-! SUPPORT. The per-instruction family RequestCode: what the message code of a well-formed command names. -/

namespace Sys2Proof.Laws.RequestCode

open Sys2Proof.Machine

/-- A well-formed request command carries a message code that names a request (12.2), and the row UNKNOWN_MESSAGE_CODE one
that names none (R190, row 1). -/
def Statement (i : Instr) : Prop :=
  i.wellFormed = true → ∀ port w, requestOf i = some (port, w) →
    (knownCodes.contains w.request.code.toNat = true ↔ ∀ c, w.request ≠ .unknownCode c)

theorem loadAxle (port : PortId) (tag : Byte) (image : AxleImage) : Statement (.loadAxle port tag image) := by
  intro _ p w r; cases r; exact ⟨fun _ _ h => (by cases h), fun _ => rfl⟩

theorem readAxle (port : PortId) (tag : Byte) (identity : List Byte) : Statement (.readAxle port tag identity) := by
  intro _ p w r; cases r; exact ⟨fun _ _ h => (by cases h), fun _ => rfl⟩

theorem unloadAxle (port : PortId) (tag : Byte) (identity : List Byte) :
    Statement (.unloadAxle port tag identity) := by
  intro _ p w r; cases r; exact ⟨fun _ _ h => (by cases h), fun _ => rfl⟩

theorem listAxles (port : PortId) (tag : Byte) (start : Nat) : Statement (.listAxles port tag start) := by
  intro _ p w r; cases r; exact ⟨fun _ _ h => (by cases h), fun _ => rfl⟩

theorem setJob (port : PortId) (tag : Byte) (fields : JobFields) : Statement (.setJob port tag fields) := by
  intro _ p w r; cases r; exact ⟨fun _ _ h => (by cases h), fun _ => rfl⟩

theorem closeJob (port : PortId) (tag : Byte) : Statement (.closeJob port tag) := by
  intro _ p w r; cases r; exact ⟨fun _ _ h => (by cases h), fun _ => rfl⟩

theorem loadTemplate (port : PortId) (tag : Byte) (index : Nat) (fields : TemplateFields) :
    Statement (.loadTemplate port tag index fields) := by
  intro _ p w r; cases r; exact ⟨fun _ _ h => (by cases h), fun _ => rfl⟩

theorem readTemplate (port : PortId) (tag : Byte) (index : Nat) : Statement (.readTemplate port tag index) := by
  intro _ p w r; cases r; exact ⟨fun _ _ h => (by cases h), fun _ => rfl⟩

theorem loadDisposition (port : PortId) (tag : Byte) (fields : DispositionFields) :
    Statement (.loadDisposition port tag fields) := by
  intro _ p w r; cases r; exact ⟨fun _ _ h => (by cases h), fun _ => rfl⟩

theorem readDisposition (port : PortId) (tag : Byte) : Statement (.readDisposition port tag) := by
  intro _ p w r; cases r; exact ⟨fun _ _ h => (by cases h), fun _ => rfl⟩

theorem setConfig (port : PortId) (tag : Byte) (item index : Nat) (value : Int) :
    Statement (.setConfig port tag item index value) := by
  intro _ p w r; cases r; exact ⟨fun _ _ h => (by cases h), fun _ => rfl⟩

theorem readConfig (port : PortId) (tag : Byte) : Statement (.readConfig port tag) := by
  intro _ p w r; cases r; exact ⟨fun _ _ h => (by cases h), fun _ => rfl⟩

theorem readStatus (port : PortId) (tag : Byte) : Statement (.readStatus port tag) := by
  intro _ p w r; cases r; exact ⟨fun _ _ h => (by cases h), fun _ => rfl⟩

theorem unknownMessageCode (port : PortId) (tag : Byte) (code : Byte) :
    Statement (.unknownMessageCode port tag code) := by
  intro h p w r; cases r; simp_all [Instr.wellFormed, Request.code]

theorem clampRequest (port : PortId) (tag : Byte) (station : Nat) : Statement (.clampRequest port tag station) := by
  intro _ p w r; cases r; exact ⟨fun _ _ h => (by cases h), fun _ => rfl⟩

theorem unclampReport (port : PortId) (tag : Byte) (station : Nat) :
    Statement (.unclampReport port tag station) := by
  intro _ p w r; cases r; exact ⟨fun _ _ h => (by cases h), fun _ => rfl⟩

theorem ackFault (port : PortId) (tag : Byte) : Statement (.ackFault port tag) := by
  intro _ p w r; cases r; exact ⟨fun _ _ h => (by cases h), fun _ => rfl⟩

theorem liftMove (port : PortId) (tag : Byte) (target : Int) (moveClass : Nat) :
    Statement (.liftMove port tag target moveClass) := by
  intro _ p w r; cases r; exact ⟨fun _ _ h => (by cases h), fun _ => rfl⟩

theorem liftStopDecel (port : PortId) (tag : Byte) : Statement (.liftStopDecel port tag) := by
  intro _ p w r; cases r; exact ⟨fun _ _ h => (by cases h), fun _ => rfl⟩

theorem liftStopImmediate (port : PortId) (tag : Byte) : Statement (.liftStopImmediate port tag) := by
  intro _ p w r; cases r; exact ⟨fun _ _ h => (by cases h), fun _ => rfl⟩

theorem startMeasure (port : PortId) (tag : Byte) (station : Nat) : Statement (.startMeasure port tag station) := by
  intro _ p w r; cases r; exact ⟨fun _ _ h => (by cases h), fun _ => rfl⟩

theorem readMeasure (port : PortId) (tag : Byte) (position : Nat) : Statement (.readMeasure port tag position) := by
  intro _ p w r; cases r; exact ⟨fun _ _ h => (by cases h), fun _ => rfl⟩

theorem plan (port : PortId) (tag : Byte) : Statement (.plan port tag) := by
  intro _ p w r; cases r; exact ⟨fun _ _ h => (by cases h), fun _ => rfl⟩

theorem readPlan (port : PortId) (tag : Byte) : Statement (.readPlan port tag) := by
  intro _ p w r; cases r; exact ⟨fun _ _ h => (by cases h), fun _ => rfl⟩

theorem startCut (port : PortId) (tag : Byte) : Statement (.startCut port tag) := by
  intro _ p w r; cases r; exact ⟨fun _ _ h => (by cases h), fun _ => rfl⟩

theorem suspendCut (port : PortId) (tag : Byte) : Statement (.suspendCut port tag) := by
  intro _ p w r; cases r; exact ⟨fun _ _ h => (by cases h), fun _ => rfl⟩

theorem resumeCut (port : PortId) (tag : Byte) : Statement (.resumeCut port tag) := by
  intro _ p w r; cases r; exact ⟨fun _ _ h => (by cases h), fun _ => rfl⟩

theorem abandonCut (port : PortId) (tag : Byte) : Statement (.abandonCut port tag) := by
  intro _ p w r; cases r; exact ⟨fun _ _ h => (by cases h), fun _ => rfl⟩

theorem takePass (port : PortId) (tag : Byte) (station : Nat) : Statement (.takePass port tag station) := by
  intro _ p w r; cases r; exact ⟨fun _ _ h => (by cases h), fun _ => rfl⟩

theorem passDone (port : PortId) (tag : Byte) (station step : Nat) :
    Statement (.passDone port tag station step) := by
  intro _ p w r; cases r; exact ⟨fun _ _ h => (by cases h), fun _ => rfl⟩

theorem passAborted (port : PortId) (tag : Byte) (station step : Nat) :
    Statement (.passAborted port tag station step) := by
  intro _ p w r; cases r; exact ⟨fun _ _ h => (by cases h), fun _ => rfl⟩

theorem toolChanged (port : PortId) (tag : Byte) (station side life : Nat) :
    Statement (.toolChanged port tag station side life) := by
  intro _ p w r; cases r; exact ⟨fun _ _ h => (by cases h), fun _ => rfl⟩

theorem estopAssertion : Statement (.estopAssertion) := by
  intro _ p w r; cases r

theorem estopRelease : Statement (.estopRelease) := by
  intro _ p w r; cases r

theorem jackSample (readings : Jacks Int) : Statement (.jackSample readings) := by
  intro _ p w r; cases r

theorem profileUpdate : Statement (.profileUpdate) := by
  intro _ p w r; cases r

theorem settleTimerExpiry : Statement (.settleTimerExpiry) := by
  intro _ p w r; cases r

theorem gaugePoint (channel : Channel) (y z : Int) : Statement (.gaugePoint channel y z) := by
  intro _ p w r; cases r

theorem endMarker (channel : Channel) : Statement (.endMarker channel) := by
  intro _ p w r; cases r

theorem wheelIndexEdge (station : Station) : Statement (.wheelIndexEdge station) := by
  intro _ p w r; cases r

theorem rollerCount (channel : Channel) : Statement (.rollerCount channel) := by
  intro _ p w r; cases r

theorem scanTimerExpiry (station : Station) : Statement (.scanTimerExpiry station) := by
  intro _ p w r; cases r

theorem stepTimerExpiry (station : Station) : Statement (.stepTimerExpiry station) := by
  intro _ p w r; cases r

theorem frameReceived (port : PortId) (bytes : List Byte) : Statement (.frameReceived port bytes) := by
  intro _ p w r; cases r

theorem byteGapTimerExpiry (port : PortId) : Statement (.byteGapTimerExpiry port) := by
  intro _ p w r; cases r

theorem transmitEnd (port : PortId) : Statement (.transmitEnd port) := by
  intro _ p w r; cases r

theorem reset : Statement (.reset) := by
  intro _ p w r; cases r

theorem resetRelease (pins : ReleasePins) : Statement (.resetRelease pins) := by
  intro _ p w r; cases r

theorem characterReceived (port : PortId) (byte : Byte) (stopBit : Bool) :
    Statement (.characterReceived port byte stopBit) := by
  intro _ p w r; cases r

end Sys2Proof.Laws.RequestCode
end

