-- ==== Sys2Proof/Laws/Planner.lean ====
section
/-! SUPPORT. What the operations of the Planner do: rounding up, the largest of a list, coverage, the condemning radius, the choice
under FULL and its bias. -/

namespace Sys2Proof.Machine

/-- The quotient rounded up, times its divisor, is the first multiple at or above the number. -/
theorem ceilDiv_mul_within (n d : Int) (positive : 0 < d) : n ≤ ceilDiv n d * d ∧ ceilDiv n d * d < n + d := by
  unfold ceilDiv
  have whole := Int.mul_ediv_add_emod (-n) d
  have low := Int.emod_nonneg (-n) (show d ≠ 0 by omega)
  have high := Int.emod_lt_of_pos (-n) positive
  have turned : -(-n / d) * d = -(d * (-n / d)) := by rw [Int.neg_mul, Int.mul_comm]
  constructor <;> rw [turned] <;> omega

/-- A radius is below the condemning radius exactly where its diameter is below the condemning diameter (R149). -/
theorem lt_condemnRadius {s : State} {st : Station} {x : AxleRecord} (bound : boundRecord s st = some x) (r : Int) :
    r < condemnRadius s st ↔ 2 * r < x.condemnDia := by
  unfold condemnRadius
  rw [bound]
  simp only [Option.map_some, Option.getD_some]
  have := ceilDiv_mul_within x.condemnDia 2 (by omega)
  omega

/-- The statements' early measurement is what the Scan Unit's early ends leave. -/
theorem endScan_measurement (s : State) (st : Station) (cause : EndCause) (reason : Reason)
    (named : earlyReason cause = some reason) :
    (endScan st cause s).measurements.get st = earlyMeasurement s st cause reason := by
  unfold endScan earlyMeasurement
  split
  · simp only [endedMeasurement, named]
    cases st <;> rfl
  · rfl

/-- The largest of a list with a first number is at or above each of them, and is one of them. -/
theorem foldl_maxInt : ∀ (l : List Int) (a : Int), let m := l.foldl maxInt a
    a ≤ m ∧ (∀ x ∈ l, x ≤ m) ∧ (m = a ∨ m ∈ l) := by
  intro l
  induction l with
  | nil => intro a; simp
  | cons b l ih =>
    intro a
    obtain ⟨h1, h2, h3⟩ := ih (maxInt a b)
    simp only [List.foldl_cons]
    have hm : a ≤ maxInt a b ∧ b ≤ maxInt a b ∧ (maxInt a b = a ∨ maxInt a b = b) := by
      unfold maxInt; split <;> omega
    refine ⟨by omega, ?_, ?_⟩
    · intro x hx
      rcases List.mem_cons.mp hx with rfl | hx
      · omega
      · exact h2 x hx
    · rcases h3 with h3 | h3
      · rcases hm.2.2 with h | h
        · left; omega
        · right; rw [h3, h]; simp
      · right; simp [h3]

/-- Which lists have no wide gap at a zone (R147). -/
theorem gapsCovered_iff (zone : Int × Int) (points : List Point) :
    gapsCovered zone points = true ↔
      ∀ pre a b post, points = pre ++ a :: b :: post →
        (zone.1 ≤ a.y ∧ a.y ≤ zone.2) ∨ (zone.1 ≤ b.y ∧ b.y ≤ zone.2) → b.y - a.y ≤ 3000 := by
  induction points with
  | nil => simp [gapsCovered]
  | cons p rest ih =>
    cases rest with
    | nil =>
      simp only [gapsCovered, true_iff]
      intro pre a b post split
      cases pre <;> simp at split
    | cons q rest =>
      have head : (!(inZone zone p.y || inZone zone q.y) || decide (q.y - p.y ≤ coverageGap)) = true
          ↔ ((zone.1 ≤ p.y ∧ p.y ≤ zone.2) ∨ (zone.1 ≤ q.y ∧ q.y ≤ zone.2) → q.y - p.y ≤ 3000) := by
        have gap : coverageGap = 3000 := rfl
        rw [Bool.or_eq_true, decide_eq_true_iff, gap]
        simp only [inZone, Bool.not_eq_true', Bool.or_eq_false_iff, Bool.and_eq_false_iff, decide_eq_false_iff_not]
        omega
      rw [gapsCovered, Bool.and_eq_true, ih, head]
      constructor
      · rintro ⟨first, later⟩ pre a b post split
        cases pre with
        | nil =>
          simp only [List.nil_append, List.cons.injEq] at split
          obtain ⟨rfl, rfl, rfl⟩ := split
          exact first
        | cons c pre =>
          simp only [List.cons_append, List.cons.injEq] at split
          exact later pre a b post split.2
      · intro all
        exact ⟨all [] p q rest rfl, fun pre a b post split => all (p :: pre) a b post (by rw [split]; rfl)⟩

/-- The entry of an evaluation as the next best (R144). -/
def nextBest (i : Nat) (e : Evaluation) (best : Option (Nat × Int)) : Option (Nat × Int) :=
  match evaluatedRadius e, best with
  | none, b => b
  | some r, none => some (i, r)
  | some r, some (k, q) => if q < r then some (i, r) else some (k, q)

theorem bestIndex_cons (k : Nat) (b : Option (Nat × Int)) (e : Evaluation) (l : List Evaluation) :
    bestIndex k b (e :: l) = bestIndex (k + 1) (nextBest k e b) l := rfl

/-- The choice under FULL (R144): the largest radius at its lowest index; none where no index has a radius; and what was best
before where nothing after it is larger. -/
theorem bestIndex_spec (l : List Evaluation) : ∀ (k : Nat) (b : Option (Nat × Int)),
    let radius := fun (i : Nat) => (l[i]?).bind evaluatedRadius
    (∀ c r, radius c = some r → (∀ i q, radius i = some q → q ≤ r) → (∀ i q, i < c → radius i = some q → q < r) →
      (∀ z, b = some z → z.2 < r) → bestIndex k b l = some (k + c, r))
    ∧ ((∀ i, radius i = none) → bestIndex k b l = b)
    ∧ ∀ z, b = some z → (∀ i q, radius i = some q → q ≤ z.2) → bestIndex k b l = b := by
  induction l with
  | nil => intro k b; exact ⟨fun c r h => by simp at h, fun _ => rfl, fun _ _ _ => rfl⟩
  | cons e l ih =>
    intro k b
    refine ⟨?_, ?_, ?_⟩
    · intro c r hc hmax hfirst hb
      cases c with
      | zero =>
        simp at hc
        have : bestIndex k b (e :: l) = bestIndex (k+1) (some (k, r)) l := by
          rw [bestIndex_cons]; unfold nextBest; rw [hc]
          cases b with
          | none => rfl
          | some z => exact congrArg (fun x => bestIndex (k+1) x l) (if_pos (hb z rfl))
        rw [this]
        exact (ih (k+1) (some (k, r))).2.2 (k, r) rfl (fun i q h => hmax (i+1) q (by simpa using h))
      | succ c =>
        have step : ∃ b', bestIndex k b (e :: l) = bestIndex (k+1) b' l ∧ ∀ z, b' = some z → z.2 < r := by
          rw [bestIndex_cons]; unfold nextBest
          refine ⟨_, rfl, ?_⟩
          intro z hz
          cases he : evaluatedRadius e with
          | none => rw [he] at hz; simp only [] at hz; exact hb z (by simpa using hz)
          | some q =>
            have hq := hfirst 0 q (by omega) (by simp [he])
            rw [he] at hz
            cases b with
            | none => simp only [] at hz; injection hz with hz; rw [← hz]; exact hq
            | some w =>
              rcases w with ⟨w1, w2⟩
              simp only [] at hz
              split at hz
              · injection hz with hz; rw [← hz]; exact hq
              · exact hb z hz
        obtain ⟨b', h1, h2⟩ := step
        rw [h1, (ih (k+1) b').1 c r (by simpa using hc) (fun i q h => hmax (i+1) q (by simpa using h))
          (fun i q hi h => hfirst (i+1) q (by omega) (by simpa using h)) h2]
        simp only [Option.some.injEq, Prod.mk.injEq, and_true]
        omega
    · intro h
      have he := h 0
      simp at he
      have : bestIndex k b (e :: l) = bestIndex (k+1) b l := by rw [bestIndex_cons]; unfold nextBest; rw [he]
      rw [this]; exact (ih (k+1) b).2.1 (fun i => by simpa using h (i+1))
    · intro z hz hall
      have : bestIndex k b (e :: l) = bestIndex (k+1) b l := by
        rw [bestIndex_cons]; unfold nextBest
        cases he : evaluatedRadius e with
        | none => cases b <;> simp
        | some q =>
          have := hall 0 q (by simp [he])
          subst hz; rcases z with ⟨z1, z2⟩; simp only [] at this ⊢; rw [if_neg (by omega)]
      rw [this]; exact (ih (k+1) b).2.2 z hz (fun i q h => hall (i+1) q (by simpa using h))

/-- The walk of the bias ends at the first index with a radius, from above and from below the chosen one (R145). -/
theorem stepBack_spec (table : List Evaluation) (chosen used : Nat) (own : Int) (hu : radiusAt table used = some own) :
    ∀ (fuel i : Nat),
      (chosen ≤ i → i < chosen + fuel → chosen ≤ used → used ≤ i →
        (∀ k, used < k → k ≤ i → radiusAt table k = none) → stepBack table chosen fuel i = used)
      ∧ (i < chosen → chosen < i + fuel → used ≤ chosen → i ≤ used →
        (∀ k, i ≤ k → k < used → radiusAt table k = none) → stepBack table chosen fuel i = used) := by
  intro fuel
  induction fuel with
  | zero => intro i; constructor <;> intros <;> omega
  | succ fuel ih =>
    intro i
    constructor
    · intro h1 h2 h3 h4 h5
      unfold stepBack
      by_cases e : i = used
      · subst e; rw [hu]; rfl
      · rw [h5 i (by omega) (by omega)]
        simp only [Option.isSome_none, Bool.false_eq_true, if_false]
        rw [if_neg (by omega), if_pos (by omega)]
        exact (ih (i-1)).1 (by omega) (by omega) h3 (by omega) (fun k hk hk2 => h5 k hk (by omega))
    · intro h1 h2 h3 h4 h5
      unfold stepBack
      by_cases e : i = used
      · subst e; rw [hu]; rfl
      · rw [h5 i (by omega) (by omega)]
        simp only [Option.isSome_none, Bool.false_eq_true, if_false]
        rw [if_pos (by omega)]
        by_cases hc : i + 1 < chosen
        · exact (ih (i+1)).2 (by omega) (by omega) h3 (by omega) (fun k hk hk2 => h5 k (by omega) hk2)
        · have : i + 1 = chosen := by omega
          have hu2 : used = chosen := by omega
          rw [this]
          cases fuel with
          | zero => omega
          | succ f => unfold stepBack; rw [← hu2, hu]; rfl

end Sys2Proof.Machine
end

