-- ==== Sys2Proof/Tests/Slice0.lean ====
section
/-! SUPPORT. The model's own tests: the checks of WellFormed, the spec's worked figures, one step of each command on a small
state, and for each statement a state and operands that meet its hypotheses. -/

namespace Sys2Proof.Tests

open Sys2Proof Sys2Proof.Machine

section

set_option Elab.async false

/-! ## Small states -/

/-- The state that a command answers. -/
def after (i : Instr) (s : State) : State :=
  match exec i s with
  | .next t => t
  | .fault _ => s
  | .refused _ => s

/-- The result code in the reply slot of a port. -/
def result (port : PortId) (s : State) : Option Result := (s.ports.get port).reply.map fun r => r.answer.result

def idA : List Byte := List.replicate 20 0x41

def idB : List Byte := List.replicate 20 0x42

def axle (id : List Byte) (b : Binding) : AxleRecord :=
  ⟨id, false, 920000, 840000, 912000, 912000, 6, none, false, false, false, false, b, []⟩

def image (id : List Byte) : AxleImage := ⟨id, false, 920000, 840000, 912000, 912000, 6, none, false, false, false, []⟩

/-- An image with an event of each kind. -/
def fullImage : AxleImage :=
  ⟨idA, true, 920000, 840000, 912000, 911000, 15, some 65535, true, false, true,
    [⟨.loaded, 0, 0, 1, 2⟩, ⟨.measure 30000 31000 (some 7), 65535, 9999999, 3, 4⟩, ⟨.verified, 1, 2, 5, 6⟩,
      ⟨.verifyFail true false, 1, 2, 7, 8⟩, ⟨.cut 7 65535, 1, 2, 9, 10⟩, ⟨.partialCut 7, 1, 2, 11, 12⟩,
      ⟨.excluded .matchDepth, 1, 2, 13, 14⟩]⟩

/-- Two records, no job. -/
def loaded : State := { State.reset with store := [axle idA .none, axle idB .none] }

def job : Job := ⟨7, 1000, ⟨idA, .aOnL⟩, some ⟨idB, .aOnR⟩, .fast, 0, 3, 0, 500000⟩

def fields : JobFields := ⟨7, 1000, 0, 0, 3, 0, 500000, 1, idA, 2, idB⟩

/-- A tandem job with the jacks at the support height. -/
def supported : State :=
  { State.reset with
    store := [axle idA .position1, axle idB .position2], job := some job
    lift := Lift.reset ⟨500000, 500000, 500000, 500000⟩
    interlock := { Interlock.reset with phase := .supported } }

/-- The same job with the jacks far from the support height. -/
def staged : State :=
  { supported with lift := Lift.reset ⟨0, 0, 0, 0⟩, interlock := { Interlock.reset with phase := .staged } }

def clamped : State :=
  { supported with interlock := { Interlock.reset with phase := .clamped, clamped := ⟨true, true⟩, permits := ⟨true, true⟩ } }

def halted : State :=
  { supported with interlock := { Interlock.reset with phase := .halted, causes := .only .estop } }

def points : List Point :=
  [⟨60000, 482000⟩, ⟨62000, 478000⟩, ⟨64000, 465000⟩, ⟨66000, 460000⟩, ⟨68000, 458000⟩, ⟨70000, 456400⟩, ⟨72000, 456000⟩]

def wheel : Wheel := { Wheel.reset with outcome := .pass, rTap := some 456400, ft := some 30000 }

def valid : Measurement := { Measurement.reset with state := .valid, wheels := ⟨wheel, wheel⟩ }

def scanned : Scan := { Scan.reset with sides := ⟨⟨points, 0, false, true, []⟩, ⟨points, 0, false, true, []⟩⟩ }

def templatePoints : List TemplatePoint := [⟨68000, 1800⟩, ⟨70000, 0⟩, ⟨72000, -200⟩]

def templateFields : TemplateFields := ⟨List.replicate 8 0x41, 32000, 3, templatePoints⟩

def template : Template := ⟨List.replicate 8 0x41, 32000, templatePoints⟩

/-- Both positions measured, with a template in slot 0. -/
def measured : State :=
  { clamped with
    scans := ⟨scanned, scanned⟩, measurements := ⟨valid, valid⟩
    slots := clamped.slots.setIfInBounds 0 ⟨some template, false⟩ }

def steps : List StepEntry := [⟨1, .rough, ⟨300, 0⟩, ⟨456100, 456400⟩⟩, ⟨2, .finish, ⟨200, 500⟩, ⟨455900, 455900⟩⟩]

def position : PositionRecord where
  outcome := .included
  thinnerFt := 30000
  lookup := .default
  evaluations := List.replicate 8 .notConsidered
  chosen := some 0
  used := some 0
  ownRadius := some 455900
  matched := false
  rFinal := some 455900
  rTap := some ⟨456400, 456400⟩
  maxRemoval := some ⟨500, 500⟩
  tapingDepth := some ⟨500, 500⟩
  stepCount := some 2
  steps := steps

def thePlan : Plan :=
  ⟨7, .fast, 0, 3, 0, .partialPlan, ⟨some position, some { position with outcome := .excluded .budget, steps := [] }⟩⟩

/-- A plan that includes position 1 alone, with the cut in a state of its own. -/
def planned (state : CutState) (cause : Option SuspendCause) (one : CutContext) : State :=
  { measured with
    plan := some thePlan
    slots := measured.slots.setIfInBounds 0 ⟨some template, true⟩
    cut := { CutSequencer.reset with
      state := state, cause := cause, contexts := ⟨one, .empty⟩, tools := ⟨⟨2, 1⟩, ⟨0, 0⟩⟩ } }

def firstNext : CutContext := { CutContext.empty with next := some 1 }

def running : State := planned .running none firstNext

/-- Step `k` in flight at station 1. -/
def cutting (k completed : Nat) : State :=
  let s := planned .running none
    { CutContext.empty with
      next := some k, inFlight := some k, completed := completed, firstDone := decide (0 < completed)
      stepTime := some 900 }
  { s with
    interlock := { s.interlock with phase := .cutting }
    cut := { s.cut with timers := ⟨some 900000, none⟩ } }

/-- A scan in flight at station 1. -/
def scanning : State :=
  { clamped with
    scans := ⟨{ Scan.reset with state := .collecting, scanTime := some 30000, timer := some 30000 }, .reset⟩
    measurements := ⟨{ Measurement.reset with state := .scanning, agreeTol := some 150, verifyTol := some 100 }, .reset⟩ }

/-- That scan with all of its parts but the last end marker of side R. -/
def nearlyScanned : State :=
  { scanning with
    scans := ⟨{ scanning.scans.one with
      sides := ⟨⟨points, 0, false, true, [0, 0, 0, 0, 149553]⟩, ⟨points, 0, false, false, [0, 0, 0, 0, 149553]⟩⟩ }, .reset⟩ }

/-- A move of the lift in a state of its own, J1 at `at_` with target `goal`. -/
def moving (state : LiftState) (speed : Int) (at_ goal : Int) : State :=
  let axis : Axis := { Axis.reset at_ with target := some goal }
  { State.reset with
    lift := { Lift.reset ⟨0, 0, 0, 0⟩ with
      axes := ⟨axis, axis, axis, axis⟩, state := state, working := some ⟨goal, .normal⟩, speed := speed
      brakesApplied := false, drivesEnabled := true
      settleTimer := if state = .settle then some 2000 else none } }

/-- A depot port with a request waiting behind a reply. -/
def busy : State :=
  State.reset.setPort .depot
    { Port.reset with
      reply := some ⟨0x22, 1, false, okWith []⟩, buffer := some ⟨2, .readStatus⟩, transmitter := .sendingReply .whole }

/-- A port that receives. -/
def receiving (received : List Byte) : State :=
  State.reset.setPort .depot { Port.reset with receive := .receiving, received := received, gapTimer := some 3 }

/-- A port that holds the first part of a request. -/
def holding : State :=
  State.reset.setPort .depot { Port.reset with held := some ⟨0x01, 1, List.replicate 240 0⟩, gapTimer := some 3 }

/-! ## WellFormed: an ill-formed term for each check -/

theorem test_wellFormed_accepts :
    ([.loadAxle .depot 0 (image idA), .setJob .depot 0 fields, .loadTemplate .depot 0 7 templateFields,
      .loadDisposition .depot 0 ⟨26000, 1000, 1, [0xFE]⟩, .setConfig .depot 0 9 4 (-20000), .unknownMessageCode .depot 0 0,
      .liftMove .console 0 16777215 255, .toolChanged .lathe 0 1 0 255, .frameReceived .depot [0xA5],
      .resetRelease ⟨1000, 1000, ⟨0, 0, 0, 0⟩, false⟩, .reset] : List Instr).all Instr.wellFormed = true := by
  decide +kernel

theorem test_wellFormed_image :
    ([{ image idA with identity := List.replicate 256 0x41 }, { image idA with newDia := 16777216 },
      { image idA with condemnDia := -1 }, { image idA with turnedA := -1 }, { image idA with turnedB := 16777216 },
      { image idA with budget := 256 }, { image idA with wear := some 65536 },
      { image idA with history := [⟨.loaded, 65536, 0, 0, 0⟩] }, { image idA with history := [⟨.loaded, 0, 16777216, 0, 0⟩] },
      { image idA with history := [⟨.loaded, 0, 0, -1, 0⟩] }, { image idA with history := [⟨.loaded, 0, 0, 0, -1⟩] },
      { image idA with history := [⟨.measure (-1) 0 none, 0, 0, 0, 0⟩] },
      { image idA with history := [⟨.measure 0 (-1) none, 0, 0, 0, 0⟩] },
      { image idA with history := [⟨.measure 0 0 (some 65536), 0, 0, 0, 0⟩] },
      { image idA with history := [⟨.cut 256 0, 0, 0, 0, 0⟩] }, { image idA with history := [⟨.cut 0 (-1), 0, 0, 0, 0⟩] },
      { image idA with history := [⟨.cut 0 65536, 0, 0, 0, 0⟩] },
      { image idA with history := [⟨.partialCut 256, 0, 0, 0, 0⟩] },
      { image idA with history := List.replicate 40 ⟨.loaded, 0, 0, 0, 0⟩ }] : List AxleImage).all
      (fun i => !(Instr.loadAxle .depot 0 i).wellFormed) = true := by decide +kernel

theorem test_wellFormed_job :
    ([{ fields with jobNumber := 65536 }, { fields with odometer := 16777216 }, { fields with mode := 256 },
      { fields with defaultTemplate := 256 }, { fields with upperIndex := 256 }, { fields with bias := 128 },
      { fields with bias := -129 }, { fields with supportHeight := -1 }, { fields with orientation1 := 256 },
      { fields with orientation2 := 256 }, { fields with identity1 := List.replicate 256 0x41 },
      { fields with identity2 := List.replicate 256 0x41 },
      { fields with identity1 := List.replicate 250 0x41, identity2 := List.replicate 250 0x41 }] : List JobFields).all
      (fun f => !(Instr.setJob .depot 0 f).wellFormed) = true := by decide +kernel

theorem test_wellFormed_tables :
    ([.loadTemplate .depot 0 256 templateFields, .loadTemplate .depot 0 0 { templateFields with name := [] },
      .loadTemplate .depot 0 0 { templateFields with ftNom := -1 }, .loadTemplate .depot 0 0 { templateFields with count := 256 },
      .loadTemplate .depot 0 0 { templateFields with points := [⟨-1, 0⟩] },
      .loadTemplate .depot 0 0 { templateFields with points := [⟨0, 2147483648⟩] },
      .loadTemplate .depot 0 0 { templateFields with points := List.replicate 67 ⟨0, 0⟩ }, .readTemplate .depot 0 256,
      .loadDisposition .depot 0 ⟨-1, 0, 0, []⟩, .loadDisposition .depot 0 ⟨0, -1, 0, []⟩,
      .loadDisposition .depot 0 ⟨0, 65536, 0, []⟩, .loadDisposition .depot 0 ⟨0, 0, 256, []⟩,
      .loadDisposition .depot 0 ⟨0, 0, 0, [256]⟩, .loadDisposition .depot 0 ⟨0, 0, 0, List.replicate 475 0⟩] :
      List Instr).all (fun i => !i.wellFormed) = true := by decide +kernel

theorem test_wellFormed_others :
    ([.readAxle .depot 0 (List.replicate 256 0), .unloadAxle .depot 0 (List.replicate 256 0), .listAxles .depot 0 256,
      .setConfig .depot 0 256 0 0, .setConfig .depot 0 1 256 0, .setConfig .depot 0 1 0 2147483648,
      .setConfig .depot 0 1 0 (-2147483649), .unknownMessageCode .depot 0 0x01, .clampRequest .lathe 0 256,
      .unclampReport .lathe 0 256, .liftMove .console 0 (-1) 0, .liftMove .console 0 0 256, .startMeasure .lathe 0 256,
      .readMeasure .depot 0 256, .takePass .lathe 0 256, .passDone .lathe 0 256 1, .passDone .lathe 0 1 256,
      .passAborted .lathe 0 256 1, .passAborted .lathe 0 1 256, .toolChanged .lathe 0 256 0 1, .toolChanged .lathe 0 1 256 1,
      .toolChanged .lathe 0 1 0 256, .frameReceived .depot [0x00], .frameReceived .depot (List.replicate 248 0xA5),
      .resetRelease ⟨1001, 0, ⟨0, 0, 0, 0⟩, false⟩, .resetRelease ⟨0, 1001, ⟨0, 0, 0, 0⟩, false⟩] : List Instr).all
      (fun i => !i.wellFormed) = true := by decide +kernel

/-! ## Worked figures of the spec -/

/-- The check value of R188. -/
theorem test_crc : crcOf [0x31, 0x32, 0x33, 0x34, 0x35, 0x36, 0x37, 0x38, 0x39] = 0x29B1 := by decide +kernel

/-- Section 2.2: the bytes of "dm-4711 / a", of "---", and the byte 0xE9. -/
theorem test_fold :
    fold [0x64, 0x6D, 0x2D, 0x34, 0x37, 0x31, 0x31, 0x20, 0x2F, 0x20, 0x61]
        = some ⟨[0x44, 0x4D, 0x34, 0x37, 0x31, 0x31, 0x41] ++ List.replicate 13 0x20, false⟩
      ∧ fold [0x2D, 0x2D, 0x2D] = none ∧ fold [0x41, 0x58, 0x23, 0x37, 0xE9] = none
      ∧ (fold (List.replicate 21 0x41)).map Folded.truncated = some true := by decide +kernel

/-- Section 6.9, wheels L and R of the first scan. -/
theorem test_wheels :
    let i : WheelInputs := ⟨70000, 10000, 2000, 100000, 4096, 150⟩
    let l := computeWheel i
      ⟨[⟨10000, 482100⟩, ⟨20000, 483990⟩, ⟨35000, 460900⟩, ⟨42000, 458500⟩, ⟨50000, 458000⟩, ⟨70000, 456400⟩,
        ⟨110000, 454600⟩], 3, false, true, [0, 1, 2, 3, 149553]⟩
    let r := computeWheel i
      ⟨[⟨10000, 481000⟩, ⟨20000, 484900⟩, ⟨35000, 460000⟩, ⟨50000, 457200⟩, ⟨70000, 456300⟩, ⟨110000, 454500⟩], 0, false,
        true, [0, 1, 2, 3, 149550]⟩
    (l.outcome, l.rTap, l.tip, l.ft, l.slope) = (.pass, some 456400, some ⟨1, 20000, 483990, 27590⟩, some 31427, some ⟨21299, 10128⟩)
      ∧ (l.dRoll, l.difference) = (some 912799, some 1)
      ∧ (r.outcome, r.ft, r.slope, r.dRoll, r.difference)
        = (.agreement, some 31205, some ⟨21205, 10000⟩, some 912781, some 181) := by decide +kernel

/-- Section 7.6. -/
theorem test_lookup :
    let d : Disposition := ⟨some 26000, some 1000,
      [.exchange, .exchange, .template 3, .template 2, .template 1, .template 0, .template 0, .noEntry]⟩
    [31205, 29100, 27950, 33420, 34000, 25900, 28000].map (dispositionLookup d)
      = [.template 0, .template 2, .exchange, .default, .default, .default, .template 3] := by decide +kernel

/-- Section 8.10: the depths of wheel L on its four steps. -/
theorem test_shares :
    (makeSteps 455350 500 ⟨4750, 3650⟩ (stepCountOf 500 1500 ⟨4750, 3650⟩)).map (fun e => (e.depth.l, e.target.l))
      = [(1417, 458683), (1417, 457266), (1416, 455850), (500, 455350)] := by decide +kernel

/-- Section 8.9: the offset at 42.000 and the axle radius of template 0. -/
theorem test_fit :
    let t : List TemplatePoint :=
      [⟨10000, 24000⟩, ⟨20000, 28000⟩, ⟨35000, 4000⟩, ⟨50000, 800⟩, ⟨70000, 0⟩, ⟨110000, -2000⟩]
    let l : List Point :=
      [⟨10000, 482100⟩, ⟨20000, 483990⟩, ⟨35000, 460900⟩, ⟨42000, 458500⟩, ⟨50000, 458000⟩, ⟨110000, 454600⟩]
    offsetAt 42000 t = 2507 ∧ fitRadius 300 t (10000, 110000) 456400 l = 455675 := by decide +kernel

/-! ## The machine, reset and the links: hypotheses met, and one step of each command -/

theorem test_meets_IdleStepIsOneMillisecond :
    State.reset.pending = [] ∧ State.reset.inReset = false ∧ (after .reset State.reset).pending = []
      ∧ (after .reset State.reset).inReset = true := by decide +kernel

/-- An idle step of a settling lift counts its timer down; at its last millisecond the expiry is queued (log 3). -/
theorem test_idleStep :
    (tick (moving .settle 0 0 0)).lift.settleTimer = some 1999
      ∧ (tick { moving .settle 0 0 0 with lift := { (moving .settle 0 0 0).lift with settleTimer := some 1 } }).pending
        = [.settleTimerExpiry] := by decide +kernel

theorem test_meets_ResetPins :
    (after .reset State.reset).inReset = true ∧ Instr.estopAssertion ≠ .reset
      ∧ [499, 501].map stationCountOf = [.single, .tandem]
      ∧ [0, 166, 167, 499, 501, 833, 834, 1000].map linkRateOf
        = [.r115200, .r115200, .r230400, .r230400, .r460800, .r460800, .r921600, .r921600] := by decide +kernel

/-- A chain found open at the release halts the pit with cause ESTOP (R18). -/
theorem test_resetRelease :
    let s := after (.resetRelease ⟨1000, 0, ⟨5, 6, 7, 8⟩, true⟩) (after .reset supported)
    s.interlock.phase = .halted ∧ s.interlock.causes = .only .estop ∧ s.store = [] ∧ s.lift.axes.j4.command = 8
      ∧ s.inReset = false := by decide +kernel

theorem test_meets_RequestAdmission :
    requestOf (.plan .depot 3) = some (.depot, ⟨3, .plan⟩) ∧ busy.inReset = false
      ∧ (busy.ports.get .depot).buffer.isSome = true
      ∧ ((after (.readStatus .depot 1) State.reset).ports.get .depot).buffer = none
      ∧ ((after (.readStatus .depot 1) State.reset).ports.get .depot).reply.isSome = true
      ∧ roleAllows (Request.plan).code .depot = false ∧ (0x48 : Byte).toNat ∈ knownCodes
      ∧ roleAllows 0x48 .console = true := by decide +kernel

theorem test_meets_portsReady : ∀ port, PortReady port State.reset ∧ PortReady port supported := by
  intro port; unfold PortReady; cases port <;> decide +kernel

theorem test_unknownMessageCode :
    result .lathe (after (.unknownMessageCode .lathe 9 0x77) State.reset) = some .form
      ∧ result .lathe (after (.plan .lathe 9) State.reset) = some .role
      ∧ ((after (.plan .depot 9) busy).ports.get .depot).overrun = true := by decide +kernel

/-- READ_STATUS answers with the restart mark and then clears it (R197). -/
theorem test_readStatus :
    let q := (after (.readStatus .lathe 4) State.reset).ports.get .lathe
    q.reply.map Reply.restart = some true ∧ q.restart = false ∧ q.lost = false := by decide +kernel

theorem test_meets_ReadingRequests :
    (47 : Nat) ≤ 47 ∧ (7 : Nat) ≤ 7 ∧ stationArg State.reset 1 = some .one ∧ stationArg State.reset 2 = some .two
      ∧ (47 : Nat) < 48 ∧ (7 : Nat) < 8 ∧ stationArg State.reset 0 = none ∧ stationArg State.reset 3 = none := by
  decide +kernel

/-- The presence bytes of R202: absent L and W of READ_DISPOSITION, the 56 bytes of a closed job, and a step entry's sides in
the order L depth, L target, R depth, R target. -/
theorem test_layouts :
    (serveReadDisposition State.reset).2.contents = List.replicate 8 0
      ∧ (serveReadDisposition { State.reset with disposition := ⟨some 26000, some 1000, [.exchange]⟩ }).2.contents
        = [1, 0x00, 0x65, 0x90, 1, 0x03, 0xE8, 1, 0xFE]
      ∧ jobStatus State.reset = 2 :: List.replicate 57 0 ∧ (jobStatus supported).length = 58
      ∧ stepBytes ⟨1, .rough, ⟨1, 2⟩, ⟨3, 4⟩⟩ = [1, 0, 0, 0, 1, 0, 0, 3, 0, 0, 2, 0, 0, 4]
      ∧ (positionBytes { position with steps := [] }).length = 115
      ∧ (positionBytes (lookedUp measured .two)).length = 115 := by decide +kernel

theorem test_readingRequests :
    [after (.listAxles .depot 1 0) loaded, after (.readTemplate .depot 1 0) measured, after (.readDisposition .depot 1) loaded,
      after (.readConfig .depot 1) loaded, after (.readMeasure .depot 1 2) measured, after (.readPlan .depot 1) running].map
        (result .depot) = List.replicate 6 (some .ok)
      ∧ result .depot (after (.listAxles .depot 1 48) loaded) = some .form
      ∧ result .depot (after (.readTemplate .depot 1 8) loaded) = some .form
      ∧ result .depot (after (.readMeasure .depot 1 3) loaded) = some .form := by decide +kernel

/-- Each clause at a boundary: no such item, a marked item outside IDLE, a value at the end of its range, and a window with a
job open that keeps the phase derivable or halts a clamped pit. -/
theorem test_meets_SetConfig :
    let near : Configuration := { State.reset.config with window := 50 }
    let off : State := { clamped with lift := Lift.reset ⟨500051, 500000, 500000, 500000⟩ }
    itemNamed 26 0 = false ∧ itemNamed 9 5 = false ∧ itemNamed 1 1 = false
      ∧ itemNamed 25 0 = true ∧ itemNamed 9 1 = true ∧ itemMarked 23 = true ∧ itemMarked 18 = false
      ∧ supported.interlock.phase ≠ .idle ∧ State.reset.interlock.phase = .idle
      ∧ (storeItem supported.config 0 50 7) = near ∧ near.window ≠ supported.config.window
      ∧ derivedPhase { supported with config := near } = some .supported
      ∧ derivedPhase { off with config := near } = none := by decide +kernel

/-- An FL above the stored FH is stored as FH and answered ADJUSTED (R199). -/
theorem test_setConfig :
    let s := after (.setConfig .depot 1 1 0 9000) { State.reset with config := { State.reset.config with fh := 4000 } }
    s.config.fl = 4000 ∧ result .depot s = some .adjusted := by decide +kernel

theorem test_meets_FrameReceived :
    State.reset.inReset = false ∧ (State.reset.ports.get .depot).receive = .hunting
      ∧ (holding.ports.get .depot).receive = .hunting ∧ (0x01 : Byte).toNat % 4 = 1 ∧ (0x41 : Byte).getLsbD 6 = true
      ∧ (List.replicate 240 (0 : Byte)).length ≤ 240 ∧ (0x77 : Byte).toNat ∉ knownCodes
      ∧ requestOf (.listAxles .depot 0 255) = some (.depot, ⟨0, .listAxles 255⟩)
      ∧ (Instr.listAxles .depot 0 255).wellFormed = true
      ∧ fitsImage fullImage = true ∧ fullImage.history.length = 7 ∧ fullImage.history.length < 12
      ∧ (6 < (7 : Byte).toNat % 16 ∧ (0x80 : Byte).getLsbD 7 = true ∧ (0x80 : Byte).toNat % 16 ≠ 1) := by decide +kernel

/-- Requests at the ends of their ranges, read back from their payloads (12.2, 12.4). -/
theorem test_payloads :
    ([.loadAxle fullImage, .readAxle [], .unloadAxle idA, .setJob fields, .setJob { fields with identity1 := [], bias := -128 },
      .loadTemplate 255 templateFields, .loadDisposition ⟨16777215, 65535, 255, [0, 255]⟩, .setConfig 9 4 (-2147483648),
      .liftMove 16777215 255, .liftStopDecel, .liftStopImmediate, .toolChanged 1 2 255, .passDone 3 8, .closeJob] :
        List Request).all (fun r => readRequest r.code (payloadOf r) == r) = true := by decide +kernel

/-- Payloads that do not fit: R203's list, each at the edge of its clause; and the ignored bits of an image's flag byte. -/
theorem test_badPayloads :
    let p := imagePayload fullImage
    ([(0x04, []), (0x20, List.replicate 5 0), (0x39, [2]), (0x02, []), (0x02, [1]), (0x03, [0, 0]),
      (0x10, List.replicate 15 0), (0x10, List.replicate 17 0), (0x18, List.replicate 12 0), (0x18, List.replicate 19 0),
      (0x1A, List.replicate 5 0), (0x01, List.replicate 17 0), (0x01, List.replicate 17 0 ++ [13]), (0x01, p ++ [0]),
      (0x01, p.take (p.length - 1)), (0x01, imageHead fullImage 8 ++ fullImage.history.flatMap eventBytes ++ [7]),
      (0x01, imageHead (image idA) 1 ++ 0x80 :: List.replicate 11 0)] : List (Byte × List Byte)).all
        (fun x => readRequest x.1 x.2 == .badPayload x.1) = true
      ∧ readRequest 0x01 (p.set 21 (p.getD 21 0 ||| 0xE0)) = .loadAxle fullImage := by decide +kernel

/-- A request in two frames: the first part is held, the second joins it; another frame between them drops the part with
FRAMING and is taken itself (R204). -/
theorem test_twoParts :
    let name := 244 :: List.replicate 244 (0x41 : Byte)
    let first := completeFrame .depot 0x41 0x02 9 (name.take 240) State.reset
    let joined := completeFrame .depot 0x01 0x02 9 (name.drop 240) first
    let other := after (.frameReceived .depot (frameBytes 0x01 0x21 9 [])) holding
    (first.ports.get .depot).held = some ⟨0x02, 9, name.take 240⟩ ∧ (first.ports.get .depot).gapTimer = some 3
      ∧ result .depot joined = some .form ∧ (joined.ports.get .depot).held = none ∧ (joined.ports.get .depot).framing = false
      ∧ result .depot other = some .ok ∧ (other.ports.get .depot).held = none ∧ (other.ports.get .depot).framing = true := by
  decide +kernel

/-- A READ_CONFIG frame with its CRC written out is answered; with the CRC spoilt it sets FRAMING alone (R187, R188). -/
theorem test_frameReceived :
    let crc := crcOf [0x01, 0x21, 0x07, 0x00]
    let high : Byte := BitVec.ofNat 8 (crc.toNat / 256)
    let low : Byte := BitVec.ofNat 8 crc.toNat
    let good := after (.frameReceived .console [0xA5, 0x01, 0x21, 0x07, 0x00, high, low]) State.reset
    let bad := after (.frameReceived .console [0xA5, 0x01, 0x21, 0x07, 0x00, high, low + 1]) State.reset
    result .console good = some .ok ∧ result .console bad = none ∧ (bad.ports.get .console).framing = true := by
  decide +kernel

/-- The last byte of a frame without payload: its length, a good CRC, a spoilt one, and another type with a good CRC. -/
theorem test_meets_CharacterReceived :
    (State.reset.ports.get .depot).receive = .hunting ∧ (State.reset.ports.get .depot).held = none
      ∧ (holding.ports.get .depot).receive = .hunting ∧ (holding.ports.get .depot).held.isSome = true
      ∧ ((receiving [1, 2, 3, 0]).ports.get .depot).received.length + 1 < 0 + 6
      ∧ ((receiving [1, 0x21, 7, 0, 0]).ports.get .depot).received.length + 1 = 0 + 6 ∧ (240 : Byte).toNat ≤ 240
      ∧ bytesOf 2 (crcOf [1, 0x21, 7, 0]).toNat ≠ [0, 0] ∧ (2 : Byte).toNat % 4 ≠ 1
      ∧ (0xA4 : Byte) ≠ 0xA5 ∧ ((receiving [1, 2]).ports.get .depot).receive = .receiving
      ∧ ((receiving [1, 2]).ports.get .depot).received.length < 3
      ∧ ((receiving [1, 2, 3]).ports.get .depot).received.length = 3 ∧ 240 < (241 : Byte).toNat := by decide +kernel

theorem test_characterReceived :
    ((after (.characterReceived .depot 0xA5 true) State.reset).ports.get .depot).receive = .receiving
      ∧ ((after (.characterReceived .depot 241 true) (receiving [1, 2, 3])).ports.get .depot).framing = true
      ∧ ((after (.characterReceived .depot 240 true) (receiving [1, 2, 3])).ports.get .depot).received = [1, 2, 3, 240]
      ∧ ((after (.characterReceived .depot 0 true) holding).ports.get .depot).framing = true
      ∧ ((after (.characterReceived .depot 0 true) (receiving [1, 0x21, 7, 0, 0])).ports.get .depot).framing = true := by
  decide +kernel

theorem test_meets_ByteGapTimerExpiry :
    (State.reset.ports.get .depot).gapTimer = none ∧ ((receiving [1]).ports.get .depot).gapTimer.isSome = true
      ∧ ((receiving [1]).ports.get .depot).receive = .receiving ∧ (holding.ports.get .depot).gapTimer.isSome = true
      ∧ (holding.ports.get .depot).held.isSome = true ∧ holding.inReset = false := by decide +kernel

theorem test_byteGapTimerExpiry :
    ((after (.byteGapTimerExpiry .depot) holding).ports.get .depot).framing = true
      ∧ ((after (.byteGapTimerExpiry .depot) holding).ports.get .depot).held = none := by decide +kernel

theorem test_meets_TransmitEnd :
    let first := State.reset.setPort .depot
      { Port.reset with
        reply := some ⟨0x22, 1, false, okWith (List.replicate 240 0)⟩, transmitter := .sendingReply .first }
    let notice := State.reset.setPort .depot { Port.reset with transmitter := .sendingNotice }
    (notice.ports.get .depot).transmitter = .sendingNotice ∧ (first.ports.get .depot).transmitter = .sendingReply .first
      ∧ (first.ports.get .depot).reply.isSome = true ∧ (busy.ports.get .depot).transmitter = .sendingReply .whole
      ∧ ReplyPart.whole ≠ .first ∧ (busy.ports.get .depot).buffer = some ⟨2, .readStatus⟩
      ∧ ((after (.readStatus .lathe 1) State.reset).ports.get .lathe).buffer = none
      ∧ (State.reset.ports.get .depot).transmitter = .idle := by decide +kernel

/-- A reply of 240 bytes goes whole and one of 241 in two parts, both before a notice; then the oldest notice goes (R193, R204). -/
theorem test_sending :
    let q : Port := { Port.reset with queue := [⟨1, .phase .idle .halted⟩, ⟨2, .toolOut .one .l⟩] }
    let with_ := fun (n : Nat) => startPort { q with reply := some ⟨0x22, 1, true, okWith (List.replicate n 0)⟩ }
    (with_ 239).transmitter = .sendingReply .whole ∧ (with_ 239).sending.take 5 = [0xA5, 0x82, 0x22, 1, 240]
      ∧ (with_ 240).transmitter = .sendingReply .first ∧ (with_ 240).sending.take 5 = [0xA5, 0xC2, 0x22, 1, 240]
      ∧ (startPort q).sending.take 7 = [0xA5, 0x83, 0x81, 1, 2] ++ noticePayload (.phase .idle .halted)
      ∧ (startPort q).queue = [⟨2, .toolOut .one .l⟩] ∧ startPort (startPort q) = startPort q := by decide +kernel

/-- The end of a reply takes the request that waits (R193). -/
theorem test_transmitEnd :
    ((after (.transmitEnd .depot) busy).ports.get .depot).buffer = none
      ∧ ((after (.transmitEnd .depot) busy).ports.get .depot).reply.map Reply.tag = some 2 := by decide +kernel

/-! ## Records, jobs and templates -/

/-- A store of `n` records, none of them `idA`. -/
def crowd (n : Nat) : List AxleRecord := (List.range n).map fun k => axle (List.replicate 19 0x42 ++ [BitVec.ofNat 8 (0x30 + k)]) .none

theorem test_meets_LoadAxle :
    fold (List.replicate 33 0x41) = none ∧ imageValid { image idA with budget := 16 } = false
      ∧ fold (image idA).identity = some ⟨idA, false⟩ ∧ imageValid { image idA with budget := 15 } = true
      ∧ (∃ held, findRecord idA supported.store = some held ∧ held.binding ≠ .none)
      ∧ (∃ held, findRecord idA loaded.store = some held ∧ held.binding = .none)
      ∧ findRecord idA (crowd 48) = none ∧ (crowd 48).length = 48 ∧ findRecord idA (crowd 47) = none
      ∧ (crowd 47).length < 48 := by
  refine ⟨by decide +kernel, by decide +kernel, by decide +kernel, by decide +kernel, ⟨axle idA .position1, by decide +kernel⟩,
    ⟨axle idA .none, by decide +kernel⟩, by decide +kernel⟩

theorem test_loadAxle :
    (after (.loadAxle .depot 1 (image idB)) (after (.loadAxle .depot 1 (image idA)) State.reset)).store.length = 1
      ∧ (after (.loadAxle .depot 1 (image idA)) { State.reset with store := crowd 47 }).store.length = 48
      ∧ result .depot (after (.loadAxle .depot 1 (image idA)) { State.reset with store := crowd 48 }) = some .full
      ∧ result .depot (after (.loadAxle .depot 1 (image idA)) supported) = some .bound := by decide +kernel

theorem test_meets_ReadAndUnloadAxle :
    fold idA = some ⟨idA, false⟩ ∧ fold [] = none ∧ findRecord idA State.reset.store = none
      ∧ findRecord idA loaded.store = some (axle idA .none) ∧ (axle idA .none).binding = .none
      ∧ findRecord idA supported.store = some (axle idA .position1) ∧ (axle idA .position1).binding ≠ .none := by
  decide +kernel

theorem test_readAxle :
    ((after (.readAxle .lathe 1 idA) { loaded with store := [{ axle idA .none with dirty := true }] }).store.map
        AxleRecord.dirty) = [false]
      ∧ result .lathe (after (.readAxle .lathe 1 idA) State.reset) = some .notFound := by decide +kernel

theorem test_unloadAxle :
    (after (.unloadAxle .depot 1 idA) loaded).store = [axle idB .none]
      ∧ result .depot (after (.unloadAxle .depot 1 idA) supported) = some .bound := by decide +kernel

/-- Boundary values of R40: one kilometre on, an equal diameter, an equal odometer, a diameter one above. -/
theorem test_meets_WearRate :
    let c : HistoryEvent := ⟨.cut 0 100, 5, 1000, 900000, 900002⟩
    isCutEvent c = true ∧ isCutEvent ⟨.partialCut 1, 5, 1001, 0, 0⟩ = false ∧ c.odometer < 1001
      ∧ (900000 : Int) ≤ minInt c.diameterA c.diameterB ∧ (1000 : Nat) ≤ c.odometer
      ∧ minInt c.diameterA c.diameterB < (900001 : Int)
      ∧ wearRate [c] 900000 1001 = some 0 ∧ wearRate [c] 900000 1000 = none ∧ wearRate [c] 900001 1001 = none
      ∧ wearRate [c, ⟨.partialCut 1, 5, 1001, 0, 0⟩] 899999 51000 = some 0
      ∧ (List.replicate 11 c).length < 12 ∧ (List.replicate 12 c).length = 12 := by decide +kernel

theorem test_meets_SetJob :
    loaded.interlock.phase = .idle ∧ loaded.interlock.causes.nonempty = false ∧ anyClamped loaded = false
      ∧ jobNumbersValid fields = true ∧ jobOrientationsValid fields = true ∧ fold fields.identity1 = some ⟨idA, false⟩
      ∧ findRecord idA loaded.store = some (axle idA .none) ∧ (axle idA .none).condemned = false
      ∧ secondAbsent { fields with orientation2 := 0, identity2 := [] } = true ∧ secondAbsent fields = false
      ∧ loaded.straps.stationCount = .tandem ∧ fold fields.identity2 = some ⟨idB, false⟩ ∧ idA ≠ idB
      ∧ findRecord idB loaded.store = some (axle idB .none) ∧ supported.interlock.phase ≠ .idle
      ∧ jobNumbersValid { fields with jobNumber := 0 } = false ∧ jobOrientationsValid { fields with orientation1 := 0 } = false
      ∧ findRecord idA [{ axle idA .none with condemned := true }] = some { axle idA .none with condemned := true }
      ∧ ¬ (List.replicate 33 (0x41 : Byte)).length ≤ 32 ∧ fields.identity1.length ≤ 32 ∧ fields.identity2.length ≤ 32
      ∧ fold [] = none ∧ fold (List.replicate 32 0x2D) = none ∧ findRecord idA State.reset.store = none
      ∧ ({ loaded with straps := { loaded.straps with stationCount := .single } } : State).straps.stationCount = .single := by
  decide +kernel

/-- An identity of 33 bytes, refused at row 2 of R47 with no position (log 23), and the rows that name one: rows 3 (an identity of
no byte, or one that all drops) to 9. -/
theorem test_setJobRows :
    let long := List.replicate 33 (0x41 : Byte)
    let dropped := List.replicate 32 (0x2D : Byte)
    let single : State := { loaded with straps := { loaded.straps with stationCount := .single } }
    let bad := fun (id : List Byte) => { axle id .none with condemned := true }
    ([({ fields with identity1 := long }, loaded), ({ fields with identity2 := long }, single),
      ({ fields with identity1 := [] }, loaded), ({ fields with identity2 := dropped }, loaded), (fields, single),
      ({ fields with identity2 := idA }, loaded), (fields, State.reset), (fields, { loaded with store := [axle idA .none] }),
      (fields, { loaded with store := [bad idA, bad idB] }), (fields, { loaded with store := [axle idA .none, bad idB] })] :
        List (JobFields × State)).map
        (fun x => ((after (.setJob .depot 1 x.1) x.2).ports.get .depot).reply.map Reply.answer)
      = [some ⟨.form, []⟩, some ⟨.form, []⟩, some ⟨.form, [1]⟩, some ⟨.form, [2]⟩, some ⟨.form, [2]⟩, some ⟨.form, [2]⟩,
          some ⟨.notFound, [1]⟩,
          some ⟨.notFound, [2]⟩, some ⟨.form, [1]⟩, some ⟨.form, [2]⟩] := by decide +kernel

theorem test_setJob :
    let s := after (.setJob .depot 1 fields) loaded
    s.interlock.phase = .staged ∧ s.store.map AxleRecord.binding = [.position1, .position2]
      ∧ ((s.ports.get .depot).queue.map fun n => n.body.code) = [0x81, 0x88, 0x88]
      ∧ result .depot (after (.setJob .depot 1 fields) supported) = some .interlock := by decide +kernel

theorem test_meets_CloseJob :
    supported.job = some job ∧ supported.interlock.phase ≠ .halted ∧ supported.interlock.causes.nonempty = false
      ∧ cutUnderWay supported = false ∧ anyClamped supported = false
      ∧ findRecord job.position1.identity supported.store = some (axle idA .position1)
      ∧ job.position2 = some ⟨idB, .aOnR⟩ ∧ findRecord idB supported.store = some (axle idB .position2)
      ∧ State.reset.job = none ∧ halted.interlock.phase = .halted ∧ cutUnderWay running = true ∧ anyClamped clamped = true := by
  decide +kernel

theorem test_closeJob :
    let s := after (.closeJob .console 1) { supported with plan := some thePlan, cut := { CutSequencer.reset with state := .planned } }
    s.job = none ∧ s.interlock.phase = .idle ∧ s.plan = none ∧ s.store.map AxleRecord.binding = [.none, .none]
      ∧ ((s.ports.get .lathe).queue.map fun n => n.body.code) = [0x81] := by decide +kernel

theorem test_meets_LoadTemplate :
    (7 : Nat) < 8 ∧ (7 : Nat) ≤ 7 ∧ (slotAt running.slots 0).locked = true ∧ (slotAt State.reset.slots 7).locked = false
      ∧ templateFault State.reset.config.yTap templateFields = none
      ∧ templateFault State.reset.config.yTap { templateFields with count := 2 } = some .count
      ∧ templateFault State.reset.config.yTap { templateFields with points := [⟨68000, 0⟩, ⟨70000, 0⟩, ⟨70000, 0⟩] }
        = some (.order 2)
      ∧ templateFault State.reset.config.yTap { templateFields with name := [0x41, 0x1F] } = some .name
      ∧ templateFault State.reset.config.yTap { templateFields with ftNom := 160001 } = some .ftNom
      ∧ templateFault State.reset.config.yTap { templateFields with points := [⟨68000, 0⟩, ⟨70000, 100001⟩, ⟨70000, 0⟩] }
        = some (.pointRange 1)
      ∧ templateFault 70001 templateFields = some .taping := by decide +kernel

theorem test_loadTemplate :
    slotAt (after (.loadTemplate .depot 1 7 templateFields) State.reset).slots 7 = ⟨some template, false⟩
      ∧ result .depot (after (.loadTemplate .depot 1 8 templateFields) State.reset) = some .form
      ∧ result .depot (after (.loadTemplate .depot 1 0 templateFields) running) = some .inUse := by decide +kernel

theorem test_meets_LoadDisposition :
    running.cut.state = .running ∧ State.reset.cut.state = .none ∧ ([7, 8] : List Nat)[1]? = some 8
      ∧ (∀ code ∈ [0, 7, 0xFE, 0xFF], code ≤ 7 ∨ code = 0xFE ∨ code = 0xFF) ∧ ¬ (8 ≤ 7 ∨ 8 = 0xFE ∨ 8 = 0xFF)
      ∧ [7, 0xFE, 0xFF].length = 3 ∧ ¬ (100 ≤ (99 : Int)) := by decide +kernel

theorem test_loadDisposition :
    (after (.loadDisposition .depot 1 ⟨26000, 5000, 3, [7, 0xFE, 0xFF]⟩) State.reset).disposition
        = ⟨some 26000, some 5000, [.template 7, .exchange, .noEntry]⟩
      ∧ ((after (.loadDisposition .depot 1 ⟨26000, 1000, 2, [7, 8]⟩) State.reset).ports.get .depot).reply.map
          (fun r => r.answer) = some ⟨.form, [1]⟩
      ∧ result .depot (after (.loadDisposition .depot 1 ⟨26000, 1000, 1, [0]⟩) running) = some .inUse := by decide +kernel

/-- The lower end of the first bin, the upper end of the last, and the first value above the table (R133). -/
theorem test_meets_DispositionLookup :
    let entries : List DispositionEntry := [.exchange, .template 2]
    entries[0]? = some .exchange ∧ entries[1]? = some (.template 2) ∧ (26000 : Int) + (1 + 1) * 1000 - 1 < 28000
      ∧ dispositionLookup ⟨some 26000, some 1000, entries⟩ 26000 = .exchange
      ∧ dispositionLookup ⟨some 26000, some 1000, entries⟩ 27999 = .template 2
      ∧ dispositionLookup ⟨some 26000, some 1000, entries⟩ 28000 = .default
      ∧ dispositionLookup ⟨some 26000, some 1000, entries⟩ 25999 = .default := by decide +kernel

/-! ## Interlock and lift -/

theorem steps_guarded {s : State} (h : s.cut.contexts.one.inFlight = none ∧ s.cut.contexts.two.inFlight = none) :
    StepsGuarded s := by
  intro st k hk
  cases st <;> simp [PerStation.get, h] at hk

theorem test_meets_ClampRequest :
    stationArg supported 3 = none ∧ stationArg supported 1 = some .one ∧ PhaseDerived supported ∧ StepsGuarded supported
      ∧ supported.interlock.phase = .supported ∧ (boundRecord supported .one).isSome = true
      ∧ stationClamped supported .one = false ∧ staged.interlock.phase ≠ .supported ∧ staged.interlock.phase ≠ .clamped
      ∧ stationClamped clamped .two = true ∧ boundRecord State.reset .one = none ∧ PortId.depot ≠ .lathe := by
  refine ⟨by decide +kernel, by decide +kernel, by unfold PhaseDerived; decide +kernel, steps_guarded (by decide +kernel), ?_⟩
  decide +kernel

theorem test_clampRequest :
    let s := after (.clampRequest .lathe 1 2) supported
    s.interlock.phase = .clamped ∧ s.interlock.permits = ⟨false, true⟩ ∧ result .lathe s = some .ok
      ∧ result .lathe (after (.clampRequest .lathe 1 1) staged) = some .interlock := by decide +kernel

theorem test_meets_UnclampReport :
    stationArg clamped 1 = some .one ∧ stationArg clamped 2 = some .two ∧ stationArg clamped 3 = none
      ∧ stationClamped supported .one = false ∧ stationClamped (cutting 1 0) .one = true
      ∧ stepInFlight (cutting 1 0) .one = some 1 ∧ scanInFlight scanning .one = true
      ∧ derivedPhase { clamped with interlock := { clamped.interlock with clamped := ⟨false, true⟩ } } = some .clamped := by
  decide +kernel

theorem test_unclampReport :
    let s := after (.unclampReport .lathe 1 1) (cutting 1 0)
    s.interlock.phase = .clamped ∧ s.cut.state = .suspended ∧ s.cut.cause = some .clampLost
      ∧ s.cut.contexts.one.next = some 1 ∧ s.cut.contexts.one.inFlight = none ∧ s.interlock.permits = ⟨false, true⟩
      ∧ (after (.unclampReport .lathe 1 1) scanning).measurements.one.reason = some .clampLost := by decide +kernel

theorem test_meets_EstopChain :
    supported.inReset = false ∧ supported.interlock.phase ≠ .halted ∧ moveInFlight (moving .run 9 0 9).lift.state = true
      ∧ halted.interlock.phase = .halted := by decide +kernel

theorem test_estop :
    let s := after .estopAssertion (cutting 2 1)
    s.interlock.phase = .halted ∧ s.cut.cause = some .halt ∧ s.interlock.clamped = ⟨true, true⟩
      ∧ (after .estopAssertion (moving .run 9000 100 9000)).lift.state = .idle
      ∧ (after .estopRelease s).interlock.estopLatch = false ∧ (after .estopRelease s).interlock.phase = .halted := by
  decide +kernel

theorem test_meets_AckFault :
    supported.interlock.phase ≠ .halted ∧ halted.interlock.phase = .halted ∧ halted.interlock.estopLatch = false
      ∧ anyClamped halted = false ∧ anyStepInFlight halted = false ∧ jackOutside halted = false
      ∧ jackOutside { halted with lift := Lift.reset ⟨500201, 500000, 500000, 500000⟩ } = true
      ∧ jackOutside { halted with lift := Lift.reset ⟨500200, 500000, 500000, 500000⟩ } = false
      ∧ anyClamped { halted with interlock := { halted.interlock with clamped := ⟨true, false⟩ } } = true
      ∧ (after .estopAssertion supported).interlock.estopLatch = true := by decide +kernel

theorem test_ackFault :
    (after (.ackFault .console 1) halted).interlock.phase = .supported
      ∧ (after (.ackFault .console 1) halted).interlock.causes = .none
      ∧ result .console (after (.ackFault .console 1) (after .estopAssertion supported)) = some .interlock := by decide +kernel

/-- Both ends of the stroke, a move with a profile and one without (R65, R66). -/
theorem test_meets_LiftMoveStarts :
    moveClassOf 0 = some .normal ∧ moveClassOf 1 = some .creep ∧ withinStroke 0 = true ∧ withinStroke 1500000 = true
      ∧ startRefusal supported 0 = none ∧ startRefusal supported 1500000 = none ∧ supported.lift.stopping = false
      ∧ moveInFlight supported.lift.state = false ∧ PhaseDerived supported ∧ startRefusal supported 500000 = none := by
  unfold PhaseDerived; decide +kernel

theorem test_liftMove :
    let s := after (.liftMove .console 1 501000 0) supported
    s.lift.state = .accel ∧ s.lift.speed = 500 ∧ s.interlock.phase = .staged ∧ s.lift.brakesApplied = false
      ∧ (after (.liftMove .console 1 500000 0) supported).lift.state = .settle
      ∧ result .console (after (.liftMove .console 1 501000 0) clamped) = some .interlock := by decide +kernel

theorem test_meets_LiftMoveNotStarted :
    let run := moving .run 9000 100 9000
    let full : State := { run with lift := { run.lift with staged := some ⟨1, .normal⟩ } }
    startRefusal run 5000 = none ∧ (after (.liftStopDecel .console 1) run).lift.stopping = true
      ∧ startRefusal (after (.liftStopDecel .console 1) run) 5000 = none ∧ run.lift.stopping = false
      ∧ moveInFlight run.lift.state = true ∧ full.lift.staged.isSome = true ∧ startRefusal full 5000 = none
      ∧ run.lift.staged = none ∧ clamped.interlock.phase = .clamped
      ∧ (∃ trim ∈ jacksList (⟨-1, 0, 0, 0⟩ : Jacks Int), ¬ (0 ≤ 0 + trim ∧ 0 + trim ≤ 1500000)) := by decide +kernel

theorem test_meets_LiftStops :
    let run := moving .run 9000 100 9000
    moveInFlight State.reset.lift.state = false ∧ run.lift.state = .run ∧ PhaseDerived run ∧ PermitsFollow run
      ∧ moveInFlight (moving .creep 500 100 9000).lift.state = true
      ∧ derivedPhase { run with lift := stoppedLift run.lift } = some .idle
      ∧ derivedPhase { moving .creep 500 100 9000 with lift := stoppedLift (moving .creep 500 100 9000).lift } = some .idle := by
  refine ⟨by decide +kernel, by decide +kernel, by unfold PhaseDerived; decide +kernel, ?_, by decide +kernel,
    by decide +kernel, by decide +kernel⟩
  intro st; cases st <;> decide +kernel

theorem test_liftStops :
    (after (.liftStopDecel .console 1) (moving .run 9000 100 9000)).lift.state = .decel
      ∧ (after (.liftStopDecel .console 1) (moving .creep 500 100 9000)).lift.state = .idle
      ∧ (after (.liftStopImmediate .console 1) (moving .run 9000 100 9000)).lift.brakesApplied = true
      ∧ (after (.liftStopImmediate .console 1) (moving .run 9000 100 9000)).lift.axes.j1.target = none := by decide +kernel

theorem test_meets_ProfileUpdateRunsOn :
    let s := moving .accel 500 0 100000
    s.inReset = false ∧ takesUpdates s.lift.state = true ∧ PhaseDerived s ∧ PermitsFollow s ∧ s.lift.stopping = false
      ∧ 0 < remainingDistance s.lift := by
  refine ⟨by decide +kernel, by decide +kernel, by unfold PhaseDerived; decide +kernel, ?_, by decide +kernel,
    by decide +kernel⟩
  intro st; cases st <;> decide +kernel

/-- The second update of a move: the speed rises by 2 and the accumulator by the speed (R70). -/
theorem test_profileUpdate :
    let s := after .profileUpdate (moving .accel 500 0 100000)
    s.lift.speed = 502 ∧ s.lift.axes.j3.accumulator = 502 ∧ s.lift.axes.j3.command = 0 ∧ s.lift.state = .accel
      ∧ (after .profileUpdate (moving .creep 500 9000 9000)).lift.state = .settle := by decide +kernel

/-- The usual end: J1, 9 µm short at 10,000 µm/s, is held at its target with 9 pulses, none past it (R71, log 39); a jack 1 mm
behind emits what remains of its distance. -/
theorem test_profileUpdate_ends :
    let s := moving .run 10000 0 9
    let far : Axis := { Axis.reset 0 with target := some 1000 }
    let t := after .profileUpdate { s with lift := { s.lift with axes := { s.lift.axes with j4 := far } } }
    t.lift.state = .settle ∧ t.lift.speed = 0 ∧ t.lift.axes.j1.command = 9 ∧ t.lift.axes.j1.accumulator = 9000
      ∧ t.lift.axes.j1.pulses = s.lift.axes.j1.pulses + 9 ∧ t.lift.axes.j4.command = 1000
      ∧ t.lift.axes.j4.pulses = s.lift.axes.j4.pulses + 1000 ∧ t.lift.settleTimer = some 2000 := by decide +kernel

theorem test_meets_ProfileUpdateEnds :
    let creep := moving .creep 500 9000 9000
    let stopping : State :=
      let s := moving .decel 502 100 9000
      { s with lift := { s.lift with stopping := true } }
    takesUpdates State.reset.lift.state = false ∧ takesUpdates creep.lift.state = true ∧ creep.lift.stopping = false
      ∧ remainingDistance creep.lift ≤ 0 ∧ 0 < remainingDistance (moving .run 10000 0 9).lift ∧ PhaseDerived creep
      ∧ PermitsFollow creep ∧ stopping.lift.state = .decel ∧ stopping.lift.stopping = true
      ∧ stopping.lift.speed - (stopping.lift.remainder + stopping.lift.copies.acceleration) / 1000 ≤ stopping.lift.copies.fl
      ∧ derivedPhase { stopping with lift := stoppedLift stopping.lift } = some .idle := by
  refine ⟨by decide +kernel, by decide +kernel, by decide +kernel, by decide +kernel, by decide +kernel,
    by unfold PhaseDerived; decide +kernel, ?_, ?_⟩
  · intro st; cases st <;> decide +kernel
  · decide +kernel

/-- A sample that finds nothing, one that leaves a support window, a tilt just over the limit and one at it, and a following
error at the limit and just over it (R75, R76). -/
theorem test_meets_JackSampleChecks :
    let run := moving .run 9000 0 9000
    let sampled := fun (s : State) (r : Jacks Int) => { s with lift := sampledLift r s.lift }
    let quiet := sampled supported ⟨500200, 500000, 500000, 500000⟩
    let out := sampled supported ⟨500201, 500000, 500000, 500000⟩
    tilted quiet.lift = false ∧ jacksAny id (laggingJacks quiet) = false ∧ settleTest quiet.lift = false
      ∧ windowChanged supported quiet = false ∧ windowChanged supported out = true ∧ derivedPhase out = some .staged
      ∧ windowChanged clamped (sampled clamped ⟨500201, 500000, 500000, 500000⟩) = true
      ∧ derivedPhase (sampled clamped ⟨500201, 500000, 500000, 500000⟩) = none
      ∧ tilted out.lift = false ∧ jacksAny id (laggingJacks out) = false
      ∧ tilted (sampled run ⟨3001, 0, 0, 0⟩).lift = true ∧ tilted (sampled run ⟨3000, 0, 0, 0⟩).lift = false
      ∧ laggingJacks (sampled run ⟨1001, 0, 1001, 0⟩) = ⟨true, false, true, false⟩
      ∧ laggingJacks (sampled run ⟨1000, 0, 0, 0⟩) = ⟨false, false, false, false⟩ ∧ run.lift.state ≠ .fault := by
  decide +kernel

theorem test_jackSample :
    (after (.jackSample ⟨500201, 500000, 500000, 500000⟩) supported).interlock.phase = .staged
      ∧ (after (.jackSample ⟨500201, 500000, 500000, 500000⟩) clamped).interlock.causes = .only .support
      ∧ (after (.jackSample ⟨3001, 0, 0, 0⟩) (moving .run 9000 0 9000)).interlock.causes = .only .tilt
      ∧ (after (.jackSample ⟨1001, 0, 0, 0⟩) (moving .run 9000 0 9000)).lift.state = .fault := by decide +kernel

theorem test_meets_SettlingJackSample :
    let s := moving .settle 0 9000 9000
    let l := sampledLift ⟨9200, 8800, 9000, 9000⟩ s.lift
    let ended : Lift := { clearTargets l with settleTimer := none }
    s.lift.state = .settle ∧ s.lift.working = some ⟨9000, .normal⟩ ∧ tilted l = false
      ∧ jacksAny id (laggingJacks { s with lift := l }) = false
      ∧ (∀ a ∈ jacksList l.axes, magnitude (a.measured - a.target.getD a.measured) ≤ l.copies.window)
      ∧ s.lift.staged = none ∧ derivedPhase { s with lift := stoppedLift l } = some .idle
      ∧ startRefusal { s with lift := ended } 8000 = none ∧ startRefusal { s with lift := ended } 1500001 = some .form
      ∧ derivedPhase { s with lift := startedLift s.config ⟨8000, .creep⟩ { ended with staged := none } } = some .idle := by
  decide +kernel

theorem test_settling :
    let s := moving .settle 0 9000 9000
    let more : State := { s with lift := { s.lift with staged := some ⟨8000, .creep⟩ } }
    (after (.jackSample ⟨9200, 8800, 9000, 9000⟩) s).lift.state = .idle
      ∧ (after (.jackSample ⟨9200, 8800, 9000, 9000⟩) more).lift.state = .creep
      ∧ (after (.jackSample ⟨9201, 8800, 9000, 9000⟩) s).lift.state = .settle
      ∧ ((after (.jackSample ⟨9200, 8800, 9000, 9000⟩)
          { s with lift := { s.lift with staged := some ⟨1500001, .creep⟩ } }).ports.get .console).noticeNumber = 2 := by
  decide +kernel

theorem test_settleTimerExpiry :
    let s := after .settleTimerExpiry (moving .settle 0 9000 9000)
    (moving .settle 0 9000 9000).lift.settleTimer.isSome = true ∧ State.reset.lift.settleTimer = none
      ∧ s.lift.state = .fault ∧ s.interlock.causes = .only .settle := by decide +kernel

/-! ## Scans, measurements and plans -/

theorem test_meets_StartMeasure :
    stationArg clamped 0 = none ∧ stationArg clamped 1 = some .one ∧ ¬ WorkAdmitted supported .one ∧ WorkAdmitted clamped .one
      ∧ scanInFlight scanning .one = true ∧ WorkAdmitted scanning .one ∧ (stepInFlight (cutting 1 0) .one).isSome = true
      ∧ planIncludes running .one = true ∧ running.cut.state = .running ∧ scanInFlight clamped .one = false
      ∧ (planned .planned none .empty).cut.state = .planned ∧ WorkAdmitted (planned .planned none .empty) .two := by
  unfold WorkAdmitted; decide +kernel

theorem test_startMeasure :
    let s := after (.startMeasure .lathe 1 1) (planned .planned none .empty)
    s.measurements.one.state = .scanning ∧ s.measurements.two.state = .valid ∧ s.plan = none ∧ s.cut.state = .none
      ∧ (s.scans.get .one).timer = some 30000 ∧ (slotAt s.slots 0).locked = false
      ∧ result .lathe (after (.startMeasure .lathe 1 1) running) = some .busy := by decide +kernel

/-- The ends of the ranges of R93, and a point at and above the last kept y. -/
theorem test_meets_GaugePoint :
    scanInFlight scanning .one = true ∧ ((scanning.scans.get .one).sides.get .l).endMarker = false
      ∧ scanInFlight clamped .one = false ∧ ((nearlyScanned.scans.get .one).sides.get .l).endMarker = true
      ∧ [(0, -250000), (160000, 250000)].map (fun p => pointInRange p.1 p.2) = [true, true]
      ∧ [(-1, 0), (160001, 0), (0, -250001), (0, 250001)].map (fun p => pointInRange p.1 p.2) = [false, false, false, false]
      ∧ pointInOrder points 72000 = false ∧ pointInOrder points 72001 = true
      ∧ (List.replicate 512 (⟨1, 1⟩ : Point)).length = 512 := by decide +kernel

theorem test_gaugePoint :
    let s := after (.gaugePoint ⟨.one, .l⟩ 70000 (-3600)) scanning
    s.scans.one.sides.l.points = [⟨70000, 456400⟩]
      ∧ (after (.gaugePoint ⟨.one, .l⟩ 70000 0) s).scans.one.sides.l.disorder = 1 := by decide +kernel

theorem test_meets_MarkersAndCaptures :
    let last : State := { nearlyScanned with
      scans := ⟨{ nearlyScanned.scans.one with
        sides := ⟨⟨points, 0, false, true, [0, 0, 0, 0]⟩, ⟨points, 0, false, true, [0, 0, 0, 0]⟩⟩ }, .reset⟩ }
    scanInFlight nearlyScanned .one = true ∧ ((nearlyScanned.scans.get .one).sides.get .r).endMarker = false
      ∧ nearlyScanned.scans.one.sides.l.captures.length = 5 ∧ scanInFlight last .one = true
      ∧ last.scans.one.sides.l.captures.length < 5 ∧ scanInFlight clamped .one = false
      ∧ stationExists clamped .two = true
      ∧ stationExists { clamped with straps := { clamped.straps with stationCount := .single } } .two = false := by
  decide +kernel

theorem test_markersAndCaptures :
    (after (.endMarker ⟨.one, .l⟩) scanning).scans.one.sides.l.endMarker = true
      ∧ (after (.wheelIndexEdge .one) scanning).scans.one.sides.r.captures = [0]
      ∧ (after (.rollerCount ⟨.two, .r⟩) { clamped with rollers := ⟨⟨0, 0⟩, ⟨0, 0xFFFFFFFF⟩⟩ }).rollers.two.r = 0 := by
  decide +kernel

/-- The last end marker completes the scan: VALID, with a MEASURE event in the record (R98, R116). -/
theorem test_scanEnds :
    let s := after (.endMarker ⟨.one, .r⟩) nearlyScanned
    s.measurements.one.state = .valid ∧ s.scans.one.state = .idle
      ∧ s.store.map (fun r => r.history.length) = [1, 0]
      ∧ (after (.scanTimerExpiry .one) scanning).measurements.one.reason = some .timeout := by decide +kernel

theorem test_meets_ScanEnds :
    let done := after (.endMarker ⟨.one, .r⟩) nearlyScanned
    let due : State := { nearlyScanned with
      measurements := ⟨{ nearlyScanned.measurements.one with verifyDue := true, verifyTarget := some 456300 }, .reset⟩ }
    (completedMeasurement nearlyScanned .one).state = .valid ∧ (completedMeasurement nearlyScanned .one).verifyDue = false
      ∧ (completedMeasurement scanning .one).state ≠ .valid ∧ nearlyScanned.job = some job
      ∧ jobPosition nearlyScanned .one = some ⟨idA, .aOnL⟩ ∧ (completedMeasurement due .one).state = .valid
      ∧ (completedMeasurement due .one).verifyDue = true ∧ (completedMeasurement due .one).verifyOutcome = .verified
      ∧ scanInFlight scanning .one = true ∧ (scanning.scans.get .one).timer.isSome = true ∧ scanInFlight done .one = false := by
  decide +kernel

theorem test_meets_WheelFigures :
    points.Pairwise (fun a b => a.y < b.y) ∧ (∃ p ∈ points, p.y = 70000) ∧ tapingRadius 69000 points = some 457200
      ∧ points = points.take 4 ++ ⟨68000, 458000⟩ :: ⟨70000, 456400⟩ :: points.drop 6
      ∧ (computeWheel ⟨70000, 10000, 2000, 100000, 4096, 150⟩ ⟨points, 8, false, true, [0, 0, 0, 0, 149553]⟩).outcome = .pass
      ∧ (computeWheel ⟨70000, 10000, 2000, 100000, 4096, 150⟩ ⟨points, 9, false, true, []⟩).outcome = .disorder
      ∧ (computeWheel ⟨72001, 10000, 2000, 100000, 4096, 150⟩ ⟨points, 0, false, true, []⟩).outcome = .range
      ∧ (computeWheel ⟨60000, 10000, 2000, 100000, 4096, 150⟩ ⟨points, 0, false, true, []⟩).outcome = .noFlange
      ∧ (computeWheel ⟨70000, 1000, 2000, 100000, 4096, 150⟩ ⟨points.take 1 ++ points.drop 5, 0, false, true, []⟩).outcome
        = .agreement
      ∧ (computeWheel ⟨70000, 30000, 2000, 100000, 4096, 150⟩ ⟨points, 0, false, true, []⟩).outcome = .noFace
      ∧ (computeWheel ⟨70000, 10000, 200000, 100000, 4096, 150⟩ ⟨points, 0, false, true, []⟩).outcome = .noFace
      ∧ crossing 465000 points = some 64000 ∧ crossing 483000 points = none
      ∧ (completedMeasurement nearlyScanned .one).wheels.l.outcome = .pass
      ∧ (completedMeasurement scanning .one).wheels.l.outcome = .range := by decide +kernel

theorem test_meets_FittedTemplateLeavesCleanUp :
    zoneOf templatePoints = some (68000, 72000) ∧ covers (68000, 72000) points = true
      ∧ offsetAt 69000 templatePoints = 900 ∧ offsetAt 69001 templatePoints = 900 ∧ offsetAt 70001 templatePoints = 0
      ∧ covers (68000, 72000) [⟨68000, 0⟩, ⟨71001, 0⟩, ⟨72000, 0⟩] = false
      ∧ covers (68000, 72000) [⟨70000, 0⟩, ⟨70001, 0⟩] = true ∧ covers (68000, 72000) [⟨70001, 0⟩] = false
      ∧ evaluateTemplate 300 template ⟨456400, 456400⟩ ⟨points, points⟩ = .evaluated 455900 455900 455900 := by
  decide +kernel

theorem test_meets_StepList :
    (0 : Int) < 500 ∧ (0 : Int) < 4000 ∧ stepCountOf 500 4000 ⟨500, 501⟩ = 2 ∧ stepCountOf 500 4000 ⟨500, 500⟩ = 1
      ∧ removalsAt measured .one position 455900 = ⟨500, 500⟩ ∧ removalsAt measured .one position 455800 = ⟨600, 600⟩ := by
  decide +kernel

theorem test_meets_EveryPlanIsSound :
    measured.job = some job ∧ 0 ≤ measured.config.bogieTol ∧ (computePlan measured job).status = .fullPlan
      ∧ ((computePlan measured job).positions.one.map fun r => (r.rFinal, r.outcome)) = some (some 455900, .included) := by
  decide +kernel

theorem job_stands {s : State} (h : s.job = some job ∧ s.store = [axle idA .position1, axle idB .position2]) :
    JobStands s := by
  intro j hj
  rw [h.1] at hj
  cases hj
  refine ⟨⟨axle idA .position1, by rw [h.2]; decide +kernel⟩, ?_⟩
  intro p hp
  cases hp
  exact ⟨by decide +kernel, axle idB .position2, by rw [h.2]; decide +kernel⟩

/-- What is decided for position 1. -/
def decided (s : State) (j : Job) : PlanOutcome × Option Nat × Option Nat :=
  let r := decidePosition s .one j
  (r.outcome, r.chosen, r.used)

/-- The same pit with one template more, in slot 2. -/
def twoTemplates : State := { measured with slots := measured.slots.setIfInBounds 2 ⟨some template, false⟩ }

/-- The same pit with a profile of side L that no template covers. -/
def shortProfile : State :=
  let side : ScanSide := ⟨[⟨70001, 456400⟩], 0, false, true, []⟩
  { measured with scans := ⟨{ scanned with sides := ⟨side, scanned.sides.r⟩ }, scanned⟩ }

/-- Every way of an axle under FAST (R142, R143, R149, R150). -/
theorem test_meets_fast :
    [decided { measured with disposition := ⟨some 30000, some 1000, [.exchange]⟩ } job, decided clamped job,
        decided shortProfile job, decided measured job,
        decided { measured with store := [{ axle idA .position1 with condemnDia := 911801 }] } job,
        decided { measured with config := { measured.config with finishDepth := 1, maxRough := 1 } } job]
      = [(.excluded .exchange, none, none), (.excluded .noTemplate, none, none), (.excluded .noFit, none, none),
          (.included, some 0, some 0), (.excluded .condemn, some 0, some 0), (.excluded .depth, some 0, some 0)] := by
  decide +kernel

/-- The choice under FULL with its bias (R144, R145). -/
theorem test_meets_full :
    let full : Job := { job with mode := .full, bias := 3 }
    [decided { clamped with measurements := ⟨valid, valid⟩ } full, decided shortProfile full, decided twoTemplates full,
        decided twoTemplates { full with bias := -3 }]
      = [(.excluded .noTemplate, none, none), (.excluded .noFit, none, none), (.included, some 0, some 2),
          (.included, some 0, some 0)] := by decide +kernel

/-- Bogie matching lowers the larger axle, here that of position 1, by the half tolerance over the smaller (R151). -/
theorem test_matching :
    let worn : Wheel := { wheel with rTap := some 454400 }
    let s : State := { measured with measurements := ⟨valid, { valid with wheels := ⟨worn, worn⟩ }⟩ }
    let p := (computePlan s job).positions
    (p.one.map fun r => (r.ownRadius, r.matched, r.rFinal)) = some (some 455900, true, some 455100)
      ∧ (p.two.map fun r => (r.ownRadius, r.matched, r.rFinal)) = some (some 454100, false, some 454100) := by
  decide +kernel

/-- Section 8.11: a BUDGET exclusion keeps the lookup result and the thinner Ft; every later item is absent. -/
theorem test_budgetExclusion :
    let s : State := { measured with store := [axle idA .position1, { axle idB .position2 with budget := 0 }] }
    (computePlan s job).status = .partialPlan
      ∧ (computePlan s job).positions.two
        = some ⟨.excluded .budget, 30000, .default, List.replicate 8 .notConsidered, none, none, none, false, none, none, none,
            none, none, []⟩
      ∧ ((computePlan s job).positions.one.bind PositionRecord.rTap) = some ⟨456400, 456400⟩ := by decide +kernel

theorem test_meets_PlanTaken :
    State.reset.job = none ∧ measured.job = some job ∧ running.cut.state ≠ .none ∧ running.cut.state ≠ .planned
      ∧ measured.cut.state = .none ∧ clamped.measurements.one.state ≠ .valid ∧ measured.measurements.one.state = .valid
      ∧ job.position2.isSome = true ∧ measured.measurements.two.state = .valid ∧ JobStands measured := by
  refine ⟨by decide +kernel, by decide +kernel, by decide +kernel, by decide +kernel, by decide +kernel, by decide +kernel,
    by decide +kernel, by decide +kernel, by decide +kernel, job_stands (by decide +kernel)⟩

theorem test_plan :
    let s := after (.plan .console 1) measured
    s.cut.state = .planned ∧ s.plan = some (computePlan measured job) ∧ (slotAt s.slots 0).locked = true
      ∧ result .console s = some .ok ∧ result .console (after (.plan .console 1) clamped) = some .interlock := by decide +kernel

/-! ## Cuts -/

theorem test_meets_StartCut :
    let s := planned .planned none .empty
    s.cut.state = .planned ∧ s.plan = some thePlan ∧ thePlan.status ≠ .empty ∧ s.interlock.phase ≠ .halted
      ∧ planIncludes s .one = true ∧ planIncludes s .two = false
      ∧ (boundRecord s .one).map AxleRecord.budget = some 6 ∧ running.cut.state ≠ .planned := by decide +kernel

theorem test_startCut :
    let s := planned .planned none .empty
    let poor : State := { s with store := [{ axle idA .position1 with budget := 0 }, axle idB .position2] }
    (after (.startCut .console 1) s).cut.contexts.one = firstNext ∧ (after (.startCut .console 1) s).cut.state = .running
      ∧ (after (.startCut .console 1) s).cut.contexts.two = .empty
      ∧ ((after (.startCut .console 1) poor).ports.get .console).reply.map (fun r => r.answer) = some ⟨.interlock, [6, 1]⟩ := by
  decide +kernel

theorem test_meets_SuspendAndResume :
    running.cut.state = .running ∧ (planned .suspended (some .timeout) firstNext).cut.state = .suspended
      ∧ (planned .suspended (some .timeout) firstNext).interlock.phase ≠ .halted ∧ State.reset.cut.state ≠ .suspended := by
  decide +kernel

theorem test_suspendAndResume :
    (after (.suspendCut .console 1) running).cut.cause = some .operator
      ∧ (after (.suspendCut .console 1) (planned .suspended (some .timeout) firstNext)).cut.cause = some .timeout
      ∧ (after (.resumeCut .console 1) (planned .suspended (some .timeout) firstNext)).cut.state = .running
      ∧ result .console (after (.resumeCut .console 1) running) = some .interlock := by decide +kernel

theorem test_meets_AbandonCut :
    let partly := planned .running none { firstNext with next := some 2, completed := 1, firstDone := true }
    State.reset.cut.state = .none ∧ anyStepInFlight (cutting 1 0) = true ∧ anyStepInFlight partly = false
      ∧ (planned .planned none .empty).cut.state = .planned ∧ anyStepInFlight (planned .planned none .empty) = false
      ∧ partly.job = some job ∧ JobStands partly := by
  refine ⟨by decide +kernel, by decide +kernel, by decide +kernel, by decide +kernel, by decide +kernel, by decide +kernel,
    job_stands (by decide +kernel)⟩

theorem test_abandonCut :
    let partly := planned .running none { firstNext with next := some 2, completed := 1, firstDone := true }
    let s := after (.abandonCut .console 1) partly
    s.cut.state = .abandoned ∧ (slotAt s.slots 0).locked = false ∧ s.plan = some thePlan
      ∧ s.store.map AxleRecord.remeasure = [true, false]
      ∧ s.store.map (fun r => r.history.map HistoryEvent.kind) = [[.partialCut 1], []]
      ∧ result .console (after (.abandonCut .console 1) (cutting 1 0)) = some .busy := by decide +kernel

theorem test_meets_TakePass :
    stationArg running 1 = some .one ∧ running.cut.state = .running ∧ WorkAdmitted running .one
      ∧ scanInFlight running .one = false ∧ stepInFlight running .one = none ∧ running.cut.contexts.one.next = some 1
      ∧ stepEntry running .one 1 = some ⟨1, .rough, ⟨300, 0⟩, ⟨456100, 456400⟩⟩
      ∧ (planRecord running .one).bind PositionRecord.used = some 0 ∧ PhaseDerived running
      ∧ running.cut.contexts.two.next = none ∧ (stepInFlight (cutting 1 0) .one).isSome = true
      ∧ State.reset.cut.state ≠ .running := by
  unfold WorkAdmitted PhaseDerived; decide +kernel

/-- A side of depth 0 needs no edge; a side that is cut does (R166). -/
theorem test_takePass :
    let worn : State := { running with cut := { running.cut with tools := ⟨⟨1, 0⟩, ⟨0, 0⟩⟩ } }
    let out : State := { running with cut := { running.cut with tools := ⟨⟨0, 1⟩, ⟨0, 0⟩⟩ } }
    (after (.takePass .lathe 1 1) worn).interlock.phase = .cutting
      ∧ (after (.takePass .lathe 1 1) worn).cut.contexts.one.inFlight = some 1
      ∧ (after (.takePass .lathe 1 1) worn).cut.timers.one = some 900000
      ∧ ((after (.takePass .lathe 1 1) out).ports.get .lathe).reply.map (fun r => r.answer) = some ⟨.tool, [1]⟩
      ∧ result .lathe (after (.takePass .lathe 1 2) running) = some .none := by decide +kernel

theorem test_meets_PassDone :
    let s := cutting 2 1
    stationArg s 1 = some .one ∧ stationArg s 3 = none ∧ (8 : Nat) < 9 ∧ stepInFlight s .one = some 2 ∧ s.job = some job
      ∧ boundRecord s .one = some (axle idA .position1) ∧ planRecord s .one = some position
      ∧ stepEntry s .one 2 = some ⟨2, .finish, ⟨200, 500⟩, ⟨455900, 455900⟩⟩ ∧ position.used = some 0
      ∧ position.rFinal = some 455900 ∧ position.maxRemoval = some ⟨500, 500⟩
      ∧ derivedPhase { s with cut := { s.cut with contexts := ⟨.empty, .empty⟩ } } = some .clamped
      ∧ stepInFlight running .one ≠ some 8 ∧ running.cut.contexts.one.late ≠ some 8
      ∧ (planned .running none { firstNext with late := some 1 }).cut.contexts.one.late = some 1 := by decide +kernel

theorem test_passDone :
    let s := after (.passDone .lathe 1 1 2) (cutting 2 1)
    s.cut.state = .complete ∧ s.cut.tools.one = ⟨1, 0⟩ ∧ s.interlock.phase = .clamped ∧ (slotAt s.slots 0).locked = false
      ∧ s.store.map AxleRecord.turnedA = [911800, 912000] ∧ s.measurements.one.verifyTarget = some 455900
      ∧ s.measurements.one.state = .stale
      ∧ ((s.ports.get .depot).queue.map fun n => n.body.code) = [0x81, 0x88]
      ∧ ((s.ports.get .lathe).queue.map fun n => n.body.code) = [0x86, 0x87, 0x81] := by decide +kernel

/-- A rough step books the budget once and leaves the turned diameters (R36, R169). -/
theorem test_passDone_rough :
    let s := after (.passDone .lathe 1 1 1) (cutting 1 0)
    s.store.map AxleRecord.budget = [5, 6] ∧ s.store.map AxleRecord.turnedA = [912000, 912000] ∧ s.cut.state = .running
      ∧ s.cut.contexts.one.next = some 2 ∧ s.cut.tools.one = ⟨1, 1⟩ := by decide +kernel

theorem test_stepLost :
    let aborted := after (.passAborted .lathe 1 1 1) (cutting 1 0)
    let expired := after (.stepTimerExpiry .one) (cutting 1 0)
    aborted.cut.cause = some .latheAbort ∧ aborted.cut.contexts.one.late = none ∧ aborted.cut.contexts.one.next = some 1
      ∧ expired.cut.cause = some .timeout ∧ expired.cut.contexts.one.late = some 1
      ∧ result .lathe (after (.passDone .lathe 1 1 1) expired) = some .late
      ∧ result .lathe (after (.passAborted .lathe 1 1 1) aborted) = some .ok
      ∧ result .lathe (after (.passAborted .lathe 1 1 0) (cutting 1 0)) = some .form
      ∧ result .lathe (after (.passDone .lathe 1 3 9) (cutting 1 0)) = some .form := by decide +kernel

theorem test_meets_StepLost :
    let s := cutting 1 0
    let c := s.cut.contexts.one
    stationArg s 1 = some .one ∧ stepInFlight s .one = some 1 ∧ (s.cut.timers.get .one).isSome = true ∧ s.inReset = false
      ∧ derivedPhase { s with
          cut := { s.cut with
            state := .suspended, cause := some .latheAbort, contexts := ⟨{ c with inFlight := none }, .empty⟩
            timers := ⟨none, none⟩ } } = some .clamped
      ∧ stepInFlight running .one = none ∧ (planned .running none { firstNext with late := some 8 }).cut.contexts.one.late = some 8 := by
  decide +kernel

theorem test_meets_ToolChanged :
    stationArg running 0 = none ∧ stationArg running 2 = some .two ∧ sideOf 0 = some .l ∧ sideOf 1 = some .r
      ∧ stepInFlight running .two = none ∧ (stepInFlight (cutting 1 0) .one).isSome = true := by decide +kernel

theorem test_toolChanged :
    (after (.toolChanged .lathe 1 2 1 255) running).cut.tools.two = ⟨0, 255⟩
      ∧ [after (.toolChanged .lathe 1 1 2 9) running, after (.toolChanged .lathe 1 1 0 0) running,
          after (.toolChanged .lathe 1 1 0 256) running, after (.toolChanged .lathe 1 1 0 9) (cutting 1 0)].map
            (result .lathe) = [some .form, some .form, some .form, some .inFlight] := by decide +kernel

/-! ## The invariants hold at a state with a step in flight, and a step is taken there -/

theorem test_meets_invariants :
    let s := { cutting 1 0 with pending := [.passDone .lathe 1 1 1] }
    HaltedByCauses s ∧ CutConsistent s ∧ StoreOrdered s ∧ JobStands s ∧ PhaseDerived s ∧ (∃ t, step s = .next t) := by
  refine ⟨by unfold HaltedByCauses; decide +kernel, by unfold CutConsistent; decide +kernel,
    by unfold StoreOrdered; decide +kernel, job_stands (by decide +kernel), by unfold PhaseDerived; decide +kernel, ⟨_, rfl⟩⟩

/-- A state for each case of R1, the clamped pit out of its windows for case 4. -/
theorem test_meets_HaltedByCausesKept :
    ([halted, State.reset, staged, { clamped with lift := Lift.reset ⟨500201, 500000, 500000, 500000⟩ }, supported, clamped,
        cutting 1 0] : List State).map derivedPhase
      = [some .halted, some .idle, some .staged, none, some .supported, some .clamped, some .cutting] := by decide +kernel

theorem test_meets_permitsAndQueues : PermitsFollow (cutting 1 0) ∧ QueuesBounded (cutting 1 0) := by
  refine ⟨fun st => ?_, fun id => ?_⟩
  · cases st <;> decide +kernel
  · cases id <;> decide +kernel

/-- A queue of 8 notices drops the next one with LOST; a queue of 7 takes it. -/
theorem test_meets_NoticeQueues :
    let n : NoticeBody := .toolOut .one .l
    let full : Port := { State.reset.ports.lathe with queue := List.replicate 8 ⟨0, n⟩ }
    let almost : Port := { full with queue := List.replicate 7 ⟨0, n⟩ }
    full.queue.length = 8 ∧ (postToPort full n).lost = true ∧ (postToPort full n).queue.length = 8
      ∧ (postToPort almost n).lost = false ∧ (postToPort almost n).queue.length = 8 := by decide +kernel

theorem test_meets_StepsGuarded : StepsGuarded (cutting 1 0) := by
  intro st k hk
  cases st
  · cases hk; decide +kernel
  · cases hk

theorem test_meets_NextStepsStand : NextStepsStand (cutting 1 0) ∧ JobRanged (cutting 1 0) := by
  refine ⟨fun st k hk => ?_, fun j hj => ?_⟩
  · cases st
    · cases hk; decide +kernel
    · cases hk
  · cases hj; decide +kernel

theorem test_meets_ScansBounded : ScansBounded nearlyScanned := by
  intro st
  refine ⟨fun sd => ?_, ?_⟩
  · cases st <;> cases sd <;> decide +kernel
  · cases st <;> decide +kernel

theorem test_meets_TapingPointsStand : TapingPointsStand running := by
  have all : running.slots.toList.all (fun x => x.template.all fun t => hasTapingPoint running.config.yTap t.points) = true := by
    decide +kernel
  intro x hx t ht
  have h := List.all_eq_true.mp all x hx
  rw [ht] at h
  simpa [hasTapingPoint] using h

theorem test_meets_ConfigInRange : ConfigInRange running := by
  have all : ∀ item < 26, ∀ index < 5, itemNamed item index = true →
      (itemRange running.config item).1 ≤ ConfigInRange.storedAt running.config item index
        ∧ ConfigInRange.storedAt running.config item index ≤ (itemRange running.config item).2 := by decide +kernel
  intro item index h
  have bounds : item < 26 ∧ index < 5 := by
    unfold itemNamed itemIndexed at h
    simp only [Bool.and_eq_true, decide_eq_true_eq] at h
    refine ⟨by omega, ?_⟩
    have h2 := h.2
    split at h2
    · simp only [Bool.and_eq_true, decide_eq_true_eq] at h2; omega
    · simp only [beq_iff_eq] at h2; omega
  exact all item bounds.1 index bounds.2 h

end

end Sys2Proof.Tests
end

section
/-! PROOFS. The statements about the Pit Interlock and reset: what a derivation and a halt do, the requests and events of
Chapter 1, reset and READ_STATUS, and the properties of the pit that every step keeps. -/

namespace Sys2Proof.Machine

/-! ## Notices change the ports alone -/

/-- The ports after a notice, which reads nothing else of the state (R194). -/
def Ports.posted (p : Ports) (n : NoticeBody) : Ports :=
  ⟨if subscribes n .depot then postToPort p.depot n else p.depot,
    if subscribes n .lathe then postToPort p.lathe n else p.lathe,
    if subscribes n .console then postToPort p.console n else p.console⟩

theorem post_eq (n : NoticeBody) (s : State) : post n s = { s with ports := s.ports.posted n } := rfl

theorem postAll_eq (ns : List NoticeBody) (s : State) :
    postAll ns s = { s with ports := ns.foldl Ports.posted s.ports } := by
  induction ns generalizing s with
  | nil => rfl
  | cons n ns ih => rw [postAll_cons, ih, post_eq]; rfl

@[simp] theorem onlyIf_true {α : Type} (l : List α) : onlyIf true l = l := rfl

@[simp] theorem onlyIf_false {α : Type} (l : List α) : onlyIf false l = [] := rfl

theorem postIf_eq (c : Bool) (n : NoticeBody) (s : State) : postIf c n s = postAll (onlyIf c [n]) s := by
  cases c <;> rfl

theorem postScanDone_if (c : Bool) (st : Station) (s : State) :
    (if c then postScanDone st s else s) = postAll (onlyIf c [.scanDone st (s.measurements.get st)]) s := by
  cases c <;> rfl

theorem postCutState_if (c : Bool) (before : CutState) (reports : PerStation StepReport) (s : State) :
    (if c then postCutState before reports s else s)
      = postAll (onlyIf c [.cutState (jobNumber s) before s.cut.state s.cut.cause reports (nextSteps s.cut)]) s := by
  cases c <;> rfl

/-! ## The derivation (R1, R2, R4) -/

/-- Holding a phase is what the statements call `heldPhase` and `phaseNotice`. -/
theorem holdPhase_eq (p : Phase) (s : State) :
    holdPhase p s = postAll (phaseNotice s p) { s with interlock := heldPhase s p s.interlock.clamped } := by
  have held : setPhase p s = { s with interlock := heldPhase s p s.interlock.clamped } := by
    simp [setPhase, drivePermits, permitValue, heldPhase, stationClamped, PerStation.get, stationExists]
  rw [holdPhase, postIf_eq, held]
  rfl

theorem rederive_eq {s : State} {p : Phase} (h : derivedPhase s = some p) :
    rederive s = postAll (phaseNotice s p) { s with interlock := heldPhase s p s.interlock.clamped } := by
  rw [rederive_hold h, holdPhase_eq]

/-! ## The parts of a halt (R11, R15) -/

/-- What an early end of a scan leaves (R99, R100, R107). -/
theorem endScan_eq (s : State) (st : Station) (cause : EndCause) (reason : Reason)
    (named : earlyReason cause = some reason) :
    endScan st cause s = { s with
      scans := s.scans.set st (endedScan s st)
      measurements := s.measurements.set st (earlyMeasurement s st cause reason) } := by
  unfold endScan endedScan earlyMeasurement
  split
  · simp only [endedMeasurement, named]
    rfl
  · simp

theorem haltScans_eq (s : State) :
    haltScans s = { s with
      scans := ⟨endedScan s .one, endedScan s .two⟩
      measurements := ⟨earlyMeasurement s .one .halt .halt, earlyMeasurement s .two .halt .halt⟩ } := by
  rw [haltScans, endScan_eq s .one .halt .halt rfl, endScan_eq _ .two .halt .halt rfl]
  rfl

/-- The state with the step in flight of a station, if there is one, lost (R173, steps 1 to 3). -/
def withoutStep (st : Station) (s : State) : State :=
  { s with
    cut := { s.cut with
      contexts := s.cut.contexts.set st (lostContext s st), timers := s.cut.timers.set st (lostTimer s st) } }

theorem dropStep_if (s : State) (st : Station) :
    (if (stepInFlight s st).isSome then dropStep st s else s) = withoutStep st s := by
  unfold withoutStep lostContext lostTimer
  split
  · rfl
  · simp

theorem suspendIfRunning_eq (cause : SuspendCause) (s : State) :
    suspendIfRunning cause s = { s with
      cut := { s.cut with
        state := if s.cut.state == .running then .suspended else s.cut.state
        cause := if s.cut.state == .running then some cause else s.cut.cause } } := by
  unfold suspendIfRunning
  split <;> rfl

theorem haltSteps_eq (s : State) :
    haltSteps s = { s with
      cut := { s.cut with
        state := if anyStepInFlight s && s.cut.state == .running then .suspended else s.cut.state
        cause := if anyStepInFlight s && s.cut.state == .running then some .halt else s.cut.cause
        contexts := ⟨lostContext s .one, lostContext s .two⟩
        timers := ⟨lostTimer s .one, lostTimer s .two⟩ } } := by
  unfold haltSteps
  cases flying : anyStepInFlight s with
  | true =>
    have second : (if (stepInFlight s .two).isSome then dropStep .two (withoutStep .one s) else withoutStep .one s)
        = withoutStep .two (withoutStep .one s) := dropStep_if (withoutStep .one s) .two
    simp only [if_true, dropStep_if, second, suspendIfRunning_eq, Bool.true_and]
    rfl
  | false =>
    obtain ⟨one, two⟩ : (stepInFlight s .one).isSome = false ∧ (stepInFlight s .two).isSome = false := by
      simpa [anyStepInFlight] using flying
    simp only [Bool.false_and, Bool.false_eq_true, if_false, lostContext, lostTimer, one, two]
    rfl

/-- What a halt leaves before its notices. -/
theorem haltedState_eq (cause : HaltCause) (s : State) :
    haltScans (haltSteps (enterHalt cause s)) = haltEffect cause s := by
  rw [haltScans_eq, haltSteps_eq]
  rfl

/-- A halt is its effect and then its notices, in every state (R11, R15). -/
theorem halt_eq (cause : HaltCause) (s : State) :
    halt cause s = postAll (haltNotices cause s) (haltEffect cause s) := by
  have turned : (s.interlock.phase != Phase.halted) = (Phase.halted != s.interlock.phase) := by
    cases s.interlock.phase <;> rfl
  unfold halt haltNotices
  simp only [haltedState_eq, postIf_eq, postScanDone_if, postCutState_if, postAll_append, turned]
  simp only [postAll_eq]
  rfl

/-- Settles O24: a halt is its effect and then its notices (`halt_eq`), and the cause sets hold what was added to them. -/
theorem haltIsTakenWhole : Obligations.HaltIsTakenWhole := by
  refine ⟨halt_eq, fun cause raised => ?_, fun c cause raised => ?_⟩
  · have empty : CauseSet.none.has raised = false := by cases raised <;> rfl
    simp only [CauseSet.only, CauseSet.has_add, empty, Bool.or_false, decide_eq_true_eq]
    exact eq_comm
  · simp only [CauseSet.has_add, Bool.or_eq_true, decide_eq_true_eq]
    rw [or_comm, eq_comm (a := cause)]

/-! ## Reading the derivation (R1, R51) -/

theorem CauseSet.nonempty_iff (c : CauseSet) : c.nonempty = true ↔ c ≠ ⟨false, false, false, false, false⟩ := by
  obtain ⟨a, b, c, d, e⟩ := c
  simp only [CauseSet.nonempty, ne_eq, CauseSet.mk.injEq, Bool.or_eq_true]
  grind

theorem exists_station (P : Station → Prop) : (∃ st, P st) ↔ P .one ∨ P .two :=
  ⟨fun ⟨st, h⟩ => by cases st <;> simp [h], fun h => h.elim (⟨_, ·⟩) (⟨_, ·⟩)⟩

theorem stationExists_iff (s : State) (st : Station) :
    stationExists s st = true ↔ st = .one ∨ s.straps.stationCount = .tandem := by
  cases st <;> simp [stationExists]

theorem anyClamped_iff (s : State) :
    anyClamped s = true ↔ ∃ st, (st = .one ∨ s.straps.stationCount = .tandem) ∧ s.interlock.clamped.get st = true := by
  simp only [anyClamped, stationClamped, Bool.or_eq_true, Bool.and_eq_true, stationExists_iff, exists_station]

theorem stepInFlight_isSome (s : State) (st : Station) :
    (stepInFlight s st).isSome = true ↔ stationExists s st = true ∧ (s.cut.contexts.get st).inFlight ≠ none := by
  unfold stepInFlight
  split <;> simp_all [Option.isSome_iff_ne_none]

theorem anyStepInFlight_iff (s : State) :
    anyStepInFlight s = true
      ↔ ∃ st, (st = .one ∨ s.straps.stationCount = .tandem) ∧ (s.cut.contexts.get st).inFlight ≠ none := by
  simp only [anyStepInFlight, Bool.or_eq_true, stepInFlight_isSome, stationExists_iff, exists_station]

theorem jacksAll_id_iff (w : Jacks Bool) : jacksAll id w = true ↔ w = ⟨true, true, true, true⟩ := by
  obtain ⟨a, b, c, d⟩ := w
  simp [jacksAll, and_assoc]

theorem supportHolds_iff (s : State) (j : Job) :
    supportHolds s j = true ↔ s.lift.state = .idle ∧ supportWindows s j.supportHeight = ⟨true, true, true, true⟩ := by
  simp [supportHolds, jacksAll_id_iff]

/-- The derivation with no cause and a job open (R1, cases 3 to 7). -/
theorem derivedPhase_open {s : State} {j : Job} (calm : s.interlock.causes.nonempty = false) (job : s.job = some j) :
    derivedPhase s =
      if supportHolds s j then
        if anyClamped s then if anyStepInFlight s then some .cutting else some .clamped else some .supported
      else if anyClamped s then none else some .staged := by
  simp only [derivedPhase, calm, job]
  cases supportHolds s j <;> cases anyClamped s <;> cases anyStepInFlight s <;> rfl

/-! ## How a request ends -/

/-- A request that its role may send, served by its owner with a change of everything but the ports and notices after it. -/
theorem exec_served {i : Instr} {port : PortId} {w : Waiting} {s y : State} {a : Answer} {ns : List NoticeBody}
    (h : requestOf i = some (port, w)) (ready : PortReady port s) (known : ∀ c, w.request ≠ .unknownCode c)
    (allowed : roleAllows w.request.code port = true) (served : serveOwner port w.request s = (postAll ns y, a))
    (kept : y.ports = s.ports) : exec i s = .next (carriedOut port w.tag w.request.code a ns y) :=
  exec_carriedOut h ready ((serveRequest_allowed port w.request s known allowed).trans served) kept

/-- A request that the role of its port may not send is answered ROLE (R190, row 2). -/
theorem exec_role {i : Instr} {port : PortId} {w : Waiting} {s : State} (h : requestOf i = some (port, w))
    (ready : PortReady port s) (known : ∀ c, w.request ≠ .unknownCode c)
    (refused : roleAllows w.request.code port = false) :
    exec i s = .next (carriedOut port w.tag w.request.code (plainly .role) [] s) :=
  exec_refused h ready (serveRequest_refused port w.request s known refused)

/-! ## CLAMP_REQUEST (R5) -/

theorem stationArg_exists {s : State} {n : Nat} {st : Station} (h : stationArg s n = some st) :
    stationExists s st = true := by
  unfold stationArg at h
  split at h
  · cases h; rfl
  · split at h
    · cases h; simp_all
    · cases h

/-- While the pit is SUPPORTED or CLAMPED no cause stands, a job is open, the support condition holds, and no step is in
flight. -/
theorem supported_or_clamped_reads {s : State} (derived : PhaseDerived s) (guarded : StepsGuarded s)
    (phase : s.interlock.phase = .supported ∨ s.interlock.phase = .clamped) :
    s.interlock.causes.nonempty = false ∧ anyStepInFlight s = false
      ∧ ∃ j, s.job = some j ∧ supportHolds s j = true := by
  unfold PhaseDerived at derived
  cases calm : s.interlock.causes.nonempty with
  | true =>
    rw [derivedPhase_halted calm, Option.some.injEq] at derived
    simp [← derived] at phase
  | false =>
    cases job : s.job with
    | none =>
      rw [derivedPhase_idle calm job, Option.some.injEq] at derived
      simp [← derived] at phase
    | some j =>
      have flying : anyStepInFlight s = true → anyClamped s = true := by
        rw [anyStepInFlight_iff, anyClamped_iff]
        rintro ⟨st, here, flies⟩
        obtain ⟨k, hk⟩ := Option.ne_none_iff_exists'.mp flies
        have clamped := (guarded st k hk).1
        exact ⟨st, here, by simp_all [stationClamped]⟩
      rw [derivedPhase_open calm job] at derived
      grind

/-- An admitted CLAMP_REQUEST derives CLAMPED (R5). -/
theorem derivedPhase_setClamp {s : State} {st : Station} (derived : PhaseDerived s) (guarded : StepsGuarded s)
    (phase : s.interlock.phase = .supported ∨ s.interlock.phase = .clamped) (here : stationExists s st = true) :
    derivedPhase (setClamp st true s) = some .clamped := by
  obtain ⟨calm, still, j, job, holds⟩ := supported_or_clamped_reads derived guarded phase
  have clamped : anyClamped (setClamp st true s) = true :=
    (anyClamped_iff _).mpr ⟨st, (stationExists_iff s st).mp here, by simp⟩
  have kept : supportHolds (setClamp st true s) j = true ∧ anyStepInFlight (setClamp st true s) = false :=
    ⟨holds, still⟩
  rw [derivedPhase_open (s := setClamp st true s) calm job]
  simp [clamped, kept]

/-- Settles O22: the refusals row by row; a granted request derives CLAMPED (`derivedPhase_setClamp`). -/
theorem clampRequest : Obligations.ClampRequest := by
  intro tag station s
  refine ⟨fun port other ready => ?_, fun ready missing => ?_, fun st ready named => ⟨fun refusal => ?_, ?_⟩⟩
  · refine exec_role (w := ⟨tag, .clampRequest station⟩) rfl ready (by simp) ?_
    cases port with
    | lathe => exact absurd rfl other
    | depot | console => rfl
  · exact exec_served (w := ⟨tag, .clampRequest station⟩) (ns := []) rfl ready (by simp) rfl
      (by simp [serveOwner, serveClampRequest, missing, refuse, plainly]) rfl
  · refine exec_served (w := ⟨tag, .clampRequest station⟩) (ns := []) rfl ready (by simp) rfl ?_ rfl
    simp only [serveOwner, serveClampRequest, named, postAll_nil, refuse, plainly]
    obtain ⟨notSupported, notClamped⟩ | unbound | clamped := refusal
    · simp [notSupported, notClamped]
    · simp [unbound]
    · simp [clamped]
  · intro phase bound free derived guarded
    refine exec_served (w := ⟨tag, .clampRequest station⟩) rfl ready (by simp) rfl ?_ rfl
    have next := derivedPhase_setClamp derived guarded phase (stationArg_exists named)
    have phaseRow : (s.interlock.phase != .supported && s.interlock.phase != .clamped) = false := by
      obtain h | h := phase <;> rw [h] <;> rfl
    have granted : serveClampRequest station s = answerOk [] (rederive (setClamp st true s)) := by
      simp [serveClampRequest, named, phaseRow, Option.isSome_iff_ne_none.mp bound, free]
    rw [serveOwner, granted, answerOk, rederive_eq next]
    rfl

/-! ## The loss of a step and the early end of a scan, with their notices -/

/-- The Cut Sequencer after the loss of the step in flight of a station, if there is one (R173). -/
def lostCut (s : State) (st : Station) (cause : SuspendCause) : CutSequencer :=
  let suspends := (stepInFlight s st).isSome && s.cut.state == .running
  { s.cut with
    state := if suspends then .suspended else s.cut.state
    cause := if suspends then some cause else s.cut.cause
    contexts := s.cut.contexts.set st (lostContext s st)
    timers := s.cut.timers.set st (lostTimer s st) }

/-- A step in flight, if there is one, is lost with its CUT_STATE (R173, R182). -/
theorem loseStep_if (s : State) (st : Station) (cause : SuspendCause) :
    (if (stepInFlight s st).isSome then loseStep st cause s else s)
      = postAll
          (onlyIf (stepInFlight s st).isSome
            [.cutState (jobNumber s) s.cut.state (lostCut s st cause).state (lostCut s st cause).cause
              (reportAt st (abortReport s st cause)) (nextSteps (lostCut s st cause))])
          { s with cut := lostCut s st cause } := by
  cases flying : (stepInFlight s st).isSome with
  | true =>
    have dropped : dropStep st s = withoutStep st s := by rw [← dropStep_if, if_pos flying]
    have lost : suspendIfRunning cause (withoutStep st s) = { s with cut := lostCut s st cause } := by
      simp only [suspendIfRunning_eq, lostCut, flying, Bool.true_and]
      rfl
    simp only [if_true, onlyIf_true, loseStep, dropped, lost]
    rfl
  | false => simp [lostCut, lostContext, lostTimer, flying]

/-- A scan in flight, if there is one, ends early with its SCAN_DONE (R99, R100). -/
theorem endScan_if (s : State) (st : Station) (cause : EndCause) (reason : Reason)
    (named : earlyReason cause = some reason) :
    (if scanInFlight s st then postScanDone st (endScan st cause s) else s)
      = postAll (onlyIf (scanInFlight s st) [.scanDone st (earlyMeasurement s st cause reason)])
          { s with
            scans := s.scans.set st (endedScan s st)
            measurements := s.measurements.set st (earlyMeasurement s st cause reason) } := by
  cases flying : scanInFlight s st with
  | true =>
    simp only [if_true, endScan_eq s st cause reason named, postScanDone, PerStation.get_set_same, onlyIf_true,
      postAll_cons, postAll_nil]
  | false => simp [endedScan, earlyMeasurement, flying]

/-- The derivation reads no port. -/
theorem rederive_postAll {s : State} {p : Phase} (ns : List NoticeBody) (h : derivedPhase s = some p) :
    rederive (postAll ns s)
      = postAll (ns ++ phaseNotice s p) { s with interlock := heldPhase s p s.interlock.clamped } := by
  have same : derivedPhase (postAll ns s) = some p := by rw [postAll_eq]; exact h
  rw [rederive_eq same, postAll_append]
  simp only [postAll_eq]
  rfl

/-! ## UNCLAMP_REPORT (R6) -/

theorem stationArg_iff (s : State) (n : Nat) (st : Station) : stationArg s n = some st ↔
    (n = 1 ∧ st = .one) ∨ (n = 2 ∧ st = .two ∧ s.straps.stationCount = .tandem) := by
  unfold stationArg
  by_cases one : n = 1
  · subst one; cases st <;> simp
  · by_cases two : n = 2
    · subst two; cases st <;> simp [stationExists]
    · simp [one, two]

/-- The state of an unclamp before its derivation: the step lost, the scan ended, the station UNCLAMPED (R6). -/
def unclamped (s : State) (st : Station) : State :=
  { s with
    cut := lostCut s st .clampLost
    scans := s.scans.set st (endedScan s st)
    measurements := s.measurements.set st (earlyMeasurement s st .clampLost .clampLost)
    interlock := { s.interlock with clamped := s.interlock.clamped.set st false } }

/-- The CUT_STATE and the SCAN_DONE of an unclamp, where they are due (R6). -/
def unclampNotices (s : State) (st : Station) : List NoticeBody :=
  onlyIf (stepInFlight s st).isSome
      [.cutState (jobNumber s) s.cut.state (lostCut s st .clampLost).state (lostCut s st .clampLost).cause
        (reportAt st (abortReport s st .clampLost)) (nextSteps (lostCut s st .clampLost))]
    ++ onlyIf (scanInFlight s st) [.scanDone st (earlyMeasurement s st .clampLost .clampLost)]

theorem unclamp_eq (s : State) (st : Station) :
    unclamp st s = rederive (postAll (unclampNotices s st) (unclamped s st)) := by
  unfold unclamp unclampNotices
  simp only [loseStep_if, endScan_if _ st .clampLost .clampLost rfl, postAll_eq, List.foldl_append]
  rfl

/-- Settles O23: an unclamp is the derivation of `unclamped` after its notices (`unclamp_eq`). -/
theorem unclampReport : Obligations.UnclampReport := by
  refine ⟨stationArg_iff, fun tag station s ready missing => ?_, fun tag station st s ready named => ⟨fun free => ?_, ?_⟩⟩
  · exact exec_served (w := ⟨tag, .unclampReport station⟩) (ns := []) rfl ready (by simp) rfl
      (by simp [serveOwner, serveUnclampReport, missing, refuse, plainly]) rfl
  · exact exec_served (w := ⟨tag, .unclampReport station⟩) (ns := []) rfl ready (by simp) rfl
      (by simp [serveOwner, serveUnclampReport, named, free, answerOk, plainly]) rfl
  · intro clamped stepLost suspends cut measurement y p derived
    refine exec_served (w := ⟨tag, .unclampReport station⟩) rfl ready (by simp) rfl ?_ rfl
    have served : serveOwner .lathe (.unclampReport station) s = (unclamp st s, plainly .ok) := by
      simp [serveOwner, serveUnclampReport, named, clamped, answerOk, plainly]
    rw [served, unclamp_eq, rederive_postAll _ (s := unclamped s st) derived]
    rfl

/-! ## The e-stop chain (R10, R80) -/

theorem postWorkingDone_eq (working : Option Move) (outcome : LiftOutcome) (cause : Option HaltCause) (s : State) :
    postWorkingDone working outcome cause s
      = postAll (working.toList.map fun m => .liftDone outcome m cause (commands s.lift) (measuredPositions s.lift)) s := by
  cases working <;> rfl

theorem dropStaged_eq (s : State) :
    dropStaged s
      = postAll (s.lift.staged.toList.map fun m =>
            .liftDone .stagedDropped m none (commands s.lift) (measuredPositions s.lift))
          { s with lift := { s.lift with staged := none } } := by
  unfold dropStaged
  cases staged : s.lift.staged with
  | some m => rfl
  | none =>
    have same : { s.lift with staged := none } = s.lift := by rw [← staged]
    rw [same]
    rfl

/-- A move that ends short leaves the stopped lift, after its LIFT_DONE and STAGED_DROPPED (R80). -/
theorem endShort_eq (s : State) :
    endShort s = postAll (liftEndNotices s.lift .stoppedShort none) { s with lift := stoppedLift s.lift } := by
  unfold endShort
  rw [postWorkingDone_eq, dropStaged_eq, liftEndNotices, postAll_append]
  simp only [postAll_eq]
  rfl

theorem stopImmediately_eq (s : State) :
    stopImmediately s
      = postAll (onlyIf (moveInFlight s.lift.state) (liftEndNotices s.lift .stoppedShort none))
          { s with lift := if moveInFlight s.lift.state then stoppedLift s.lift else s.lift } := by
  unfold stopImmediately
  cases moveInFlight s.lift.state
  · rfl
  · exact endShort_eq s

/-- A halt reads no port. -/
theorem halt_postAll (cause : HaltCause) (ns : List NoticeBody) (s : State) :
    halt cause (postAll ns s) = postAll (ns ++ haltNotices cause s) (haltEffect cause s) := by
  rw [halt_eq, postAll_append]
  simp only [postAll_eq]
  rfl

/-- Settles O25: the stop of the lift (`stopImmediately_eq`) goes before the halt (`halt_postAll`). -/
theorem estopChain : Obligations.EstopChain := by
  intro s free
  refine ⟨fun phase => ?_, fun phase => ?_, ?_⟩
  · intro moving y
    have stopped : assertEstop s = halt .estop (stopImmediately (setLatch true s)) := by simp [assertEstop, phase]
    rw [exec, execEstopAssertion, takeEvent_released _ _ free, stopped, stopImmediately_eq, halt_postAll]
    rfl
  · have joined : assertEstop s = addCause .estop (setLatch true s) := by simp [assertEstop, phase]
    rw [exec, execEstopAssertion, takeEvent_released _ _ free, joined]
    rfl
  · rw [exec, execEstopRelease, takeEvent_released _ _ free]
    rfl

/-! ## ACK_FAULT (R16, R83) -/

/-- The state of a carried-out ACK_FAULT before its derivation (R16, R83). -/
def acknowledged (s : State) : State :=
  setLift (acknowledgedLift s.lift) { s with interlock := { s.interlock with causes := CauseSet.none } }

/-- With the causes gone and the lift IDLE, the windows, the clamps and the steps decide (R1, R16). -/
theorem derivedPhase_acknowledged {s : State} (still : anyStepInFlight s = false)
    (clear : anyClamped s = false ∨ jackOutside s = false) :
    derivedPhase (acknowledged s) = some
      (if s.job = none then .idle
      else if jackOutside s then .staged
      else if anyClamped s then .clamped
      else .supported) := by
  cases job : s.job with
  | none => exact derivedPhase_idle (s := acknowledged s) rfl job
  | some j =>
    have holds : supportHolds (acknowledged s) j = !jackOutside s := by
      have windows : jackOutside s = !jacksAll id (supportWindows s j.supportHeight) := by simp [jackOutside, job]
      rw [windows, Bool.not_not]
      rfl
    have clamps : anyClamped (acknowledged s) = anyClamped s := rfl
    have steps : anyStepInFlight (acknowledged s) = false := still
    rw [derivedPhase_open (s := acknowledged s) rfl job, holds, clamps, steps]
    grind

/-- Settles O26: the phase after the acknowledgement is that of `derivedPhase_acknowledged`. -/
theorem ackFault : Obligations.AckFault := by
  intro tag s ready
  have ends {y : State} {a : Answer} {ns : List NoticeBody} (served : serveAckFault s = (postAll ns y, a))
      (kept : y.ports = s.ports) : exec (.ackFault .console tag) s = .next (carriedOut .console tag 0x32 a ns y) :=
    exec_served (w := ⟨tag, .ackFault⟩) rfl ready (by simp) rfl served kept
  refine ⟨fun phase => ?_, fun phase refusal => ?_, ?_⟩
  · exact ends (ns := []) (by simp [serveAckFault, phase, answerOk, plainly]) rfl
  · refine ends (ns := []) ?_ rfl
    obtain latched | ⟨clamped, outside⟩ := refusal
    · simp [serveAckFault, phase, latched, refuse, plainly]
    · simp [serveAckFault, phase, clamped, outside, refuse, plainly]
  · intro phase latch clear still p held
    have derived : derivedPhase (acknowledged s) = some p := derivedPhase_acknowledged still clear
    have other : (p != .halted) = true := by
      have cases : p = .idle ∨ p = .staged ∨ p = .clamped ∨ p = .supported := by grind
      obtain h | h | h | h := cases <;> rw [h] <;> rfl
    have granted : serveAckFault s = (rederive (acknowledged s), plainly .ok) := by
      have row3 : (anyClamped s && jackOutside s) = false := by grind
      simp [serveAckFault, phase, latch, row3, answerOk, plainly, acknowledge, acknowledged]
    have notice : phaseNotice (acknowledged s) p = [.phase .halted p] := by
      have before : (acknowledged s).interlock.phase = .halted := phase
      simp [phaseNotice, before, other]
    refine ends ?_ rfl
    rw [granted, rederive_eq derived, notice]
    rfl

/-! ## Reset and its release (R18, R196) -/

theorem stationCountOf_nearer (level : Nat) :
    (level < 500 → stationCountOf level = .single) ∧ (500 < level → stationCountOf level = .tandem) := by
  unfold stationCountOf
  grind

theorem linkRateOf_nearer (level : Nat) :
    (level ≤ 166 → linkRateOf level = .r115200)
      ∧ (167 ≤ level → level < 500 → linkRateOf level = .r230400)
      ∧ (500 < level → level ≤ 833 → linkRateOf level = .r460800)
      ∧ (834 ≤ level → linkRateOf level = .r921600) := by
  unfold linkRateOf
  grind

/-- While reset is asserted every command but the two of reset is an event that is not taken. -/
theorem exec_inReset {c : Instr} {s : State} (held : s.inReset = true) (notReset : c ≠ .reset)
    (notRelease : ∀ pins, c ≠ .resetRelease pins) : exec c s = .next s := by
  cases c with
  | reset => exact absurd rfl notReset
  | resetRelease pins => exact absurd rfl (notRelease pins)
  | _ => exact takeEvent_inReset _ _ held

/-- A chain found open at the release halts a pit that is IDLE with a lift at rest (R10, R18). -/
theorem assertEstop_released (straps : Straps) (encoders : Jacks Int) (pending : List Instr) :
    assertEstop { State.released straps encoders with pending := pending }
      = postAll [.halted .estop (.only .estop), .phase .idle .halted]
          { State.released straps encoders with
            pending := pending, interlock := ⟨.halted, ⟨false, false⟩, true, .only .estop, ⟨false, false⟩⟩ } := by
  have halts : assertEstop { State.released straps encoders with pending := pending }
      = halt .estop (setLatch true { State.released straps encoders with pending := pending }) := rfl
  rw [halts, halt_eq]
  obtain ⟨count, rate⟩ := straps
  cases count <;> rfl

/-- Settles O5: what reset holds, what it does not take (`exec_inReset`), and a release into an open chain
(`assertEstop_released`). -/
theorem resetPins : Obligations.ResetPins := by
  refine ⟨⟨fun s => rfl, fun c s => exec_inReset⟩, fun pins s => ?_, stationCountOf_nearer, linkRateOf_nearer⟩
  rw [exec, execResetRelease, releaseReset]
  cases pins.chainOpen with
  | true => simp only [if_true, assertEstop_released]; rfl
  | false => rfl

/-! ## The state right after reset -/

/-- Settles O4: every item of the state right after reset by evaluation. -/
theorem resetState : Obligations.ResetState := by
  refine ⟨rfl, rfl, rfl, rfl, rfl, rfl, rfl, rfl, rfl, rfl, rfl, rfl, rfl, rfl, rfl, rfl, rfl, rfl, ?_, ?_, ?_, rfl, rfl,
    rfl, rfl, ?_⟩
  · simp [jacksList, State.reset, State.released, Lift.reset, Axis.reset]
  · intro st; cases st <;> exact ⟨rfl, rfl, rfl, rfl, rfl, rfl⟩
  · rfl
  · intro id; cases id <;> rfl

theorem configInRange_reset : ConfigInRange State.reset := by
  have all : ∀ item < 26, ∀ index < 5, itemNamed item index = true →
      (itemRange State.reset.config item).1 ≤ ConfigInRange.storedAt State.reset.config item index
        ∧ ConfigInRange.storedAt State.reset.config item index ≤ (itemRange State.reset.config item).2 := by decide
  intro item index named
  have small : item < 26 ∧ index < 5 := by
    unfold itemNamed at named
    grind
  exact all item small.1 index small.2 named

/-- Settles O51: the state right after reset is empty but for its configuration (`configInRange_reset`). -/
theorem invariantsAtReset : Obligations.InvariantsAtReset := by
  have noStep : ∀ st, (State.reset.cut.contexts.get st).next = none ∧ (State.reset.cut.contexts.get st).inFlight = none := by
    intro st; cases st <;> exact ⟨rfl, rfl⟩
  refine ⟨by unfold HaltedByCauses; decide, fun st => ?_, fun id => ?_, ⟨by decide, by decide, by decide⟩, ?_, ?_, ?_,
    ⟨by decide, by decide⟩, fun st k flies => ?_, fun st k next => ?_, rfl, configInRange_reset, fun st => ?_⟩
  · cases st <;> decide
  · cases id <;> decide
  · intro j open_; cases open_
  · intro x among t loaded
    have slots : State.reset.slots.toList = List.replicate 8 ⟨none, false⟩ := rfl
    rw [slots] at among
    rw [List.eq_of_mem_replicate among] at loaded
    cases loaded
  · intro j open_; cases open_
  · simp [noStep] at flies
  · simp [noStep] at next
  · refine ⟨fun sd => ?_, ?_⟩
    · cases st <;> cases sd <;> decide
    · cases st <;> rfl

/-! ## READ_STATUS (R197, R202) -/

/-- The last byte of a number is its remainder (R202). -/
theorem bytesOf_succ (w n : Nat) : bytesOf (w + 1) n = bytesOf w (n / 256) ++ [BitVec.ofNat 8 n] := by
  induction w generalizing n with
  | zero => simp [bytesOf]
  | succ w ih =>
    rw [bytesOf, ih, bytesOf, Nat.div_div_eq_div_mul, Nat.pow_succ, Nat.mul_comm 256]
    rfl

theorem unsignedBytes_fits (w : Nat) (v : Int) (low : 0 ≤ v) (high : v < 256 ^ w) :
    unsignedBytes w v = bytesOf w v.toNat := by
  simp [unsignedBytes, low, high]

theorem signedBytes_fits (w : Nat) (v : Int) (some_ : 0 < w) (low : -256 ^ w ≤ 2 * v) (high : 2 * v < 256 ^ w) :
    signedBytes w v = bytesOf w (v % 256 ^ w).toNat := by
  obtain ⟨n, rfl⟩ : ∃ n, w = n + 1 := ⟨w - 1, by omega⟩
  have even : 256 ^ (n + 1) = 2 * (128 * 256 ^ n) := by rw [Nat.pow_succ]; omega
  have whole : (256 : Int) ^ (n + 1) = ((256 ^ (n + 1) : Nat) : Int) := (Int.natCast_pow 256 (n + 1)).symm
  have fits : -((256 ^ (n + 1) / 2 : Nat) : Int) ≤ v ∧ v < ((256 ^ (n + 1) / 2 : Nat) : Int) := by
    rw [whole, even] at low high
    rw [even]
    omega
  rw [signedBytes, if_pos fits, whole]

theorem optByte_eq (n : Option Nat) : optByte n = oneByte (n.getD 0) := by cases n <;> rfl

/-- The items of both stations: those of station 2 are 0 in a single-station pit (R202). -/
theorem bothStations_eq (s : State) (width : Nat) (items : Station → List Byte) :
    bothStations s width items
      = oneByte 1 ++ items .one
        ++ (if s.straps.stationCount = .tandem then oneByte 1 ++ items .two else bytesOf (width + 1) 0) := by
  cases count : s.straps.stationCount <;> simp [bothStations, stationBytes, stationExists, count]

/-- READ_STATUS replies with the status as it stands and then clears the flags and the restart mark of its port (R197). -/
theorem exec_readStatus {port : PortId} {tag : Byte} {s : State} (ready : PortReady port s) :
    exec (.readStatus port tag) s = .next
      (startTransmitters
        (s.setPort port
          { s.ports.get port with
            lost := false, framing := false, overrun := false, restart := false
            reply := some ⟨0x22, tag, (s.ports.get port).restart, okWith (statusBytes s)⟩ })) := by
  have allowed : roleAllows 0x22 port = true := by cases port <;> rfl
  rw [exec_ready (port := port) (w := ⟨tag, .readStatus⟩) rfl s ready, takeRequest,
    serveRequest_allowed port .readStatus s (by simp) allowed]
  obtain ⟨-, empty, -⟩ := ready
  simp only [serveOwner, serveReadStatus, answerOk, State.setPort_setPort, State.setPort_ports, Ports.get_set_same,
    clearPortFlags, empty]
  rfl

/-- Settles O7: R202's numbers (`bytesOf_succ`, `unsignedBytes_fits`, `signedBytes_fits`), the codes of 12.7 by evaluation, each
block's part of the status, and the reply (`exec_readStatus`). -/
theorem readStatus : Obligations.ReadStatus := by
  refine ⟨⟨fun _ => rfl, bytesOf_succ, unsignedBytes_fits, signedBytes_fits, fun _ => rfl, fun _ => rfl,
    fun _ _ _ _ => ⟨rfl, rfl⟩⟩, ?_, fun s => ?_, fun port tag s ready => exec_readStatus ready⟩
  · refine ⟨by decide, by decide, by decide, by decide, by decide, by decide, by decide, by decide, by decide,
      by decide, by decide, by decide, by decide, by decide, by decide, by decide, by decide, by decide⟩
  · intro flag step stations port place job jack move level side time count slot links pit visit lift scans measurements
      plan cut
    have hLinks : linkStatus s = links := rfl
    have hPit : pitStatus s = pit := by simp only [pitStatus, bothStations_eq]; rfl
    have hVisit : jobStatus s = visit := by
      unfold jobStatus
      cases h : s.straps.stationCount <;> simp [visit, h] <;> rfl
    have hLift : liftStatus s = lift := by
      simp only [liftStatus, jacksList, List.flatMap_cons, List.flatMap_nil, List.append_nil, lift, List.append_assoc]
      rfl
    have hScans : scanStatus s = scans := by simp only [scanStatus, bothStations_eq]; rfl
    have hMeasurements : measurementStatus s = measurements := by simp only [measurementStatus, bothStations_eq]; rfl
    have hSlots : templateStatus s = s.slots.toList.flatMap slot ++ oneByte s.disposition.entries.length := rfl
    have hPlan : planStatusBytes s = plan := rfl
    have hCut : cutStatus s = cut := by
      simp only [cutStatus, bothStations_eq, contextStatus, optByte_eq]; rfl
    rw [statusBytes, hLinks, hPit, hVisit, hLift, hScans, hMeasurements, hSlots, hPlan, hCut]

/-! ## What every command keeps of the pit -/

/-- R162, R165, R167: steps in flight and next steps stand only where they may. -/
def StepsStand (s : State) : Prop := StepsGuarded s ∧ NextStepsStand s

/-- The later state keeps what the earlier one had of the properties of the pit (R1, R8, R13, R167). The phase derived is kept
only together with the steps, which some commands rely on. -/
structure KeepsPit (s t : State) : Prop where
  halted : HaltedByCauses s → HaltedByCauses t
  permits : PermitsFollow s → PermitsFollow t
  steps : StepsStand s → StepsStand t
  phase : PhaseDerived s → StepsStand s → PhaseDerived t

theorem KeepsPit.refl (s : State) : KeepsPit s s := ⟨id, id, id, fun h _ => h⟩

theorem KeepsPit.trans {s t u : State} (first : KeepsPit s t) (second : KeepsPit t u) : KeepsPit s u where
  halted h := second.halted (first.halted h)
  permits h := second.permits (first.permits h)
  steps h := second.steps (first.steps h)
  phase h stands := second.phase (first.phase h stands) (first.steps stands)

/-! ## Frames: what the guards of the steps read, and what the derivation reads -/

/-- Nothing that the guards of the steps read is changed, but a scan may end. -/
structure StepFrame (s t : State) : Prop where
  straps : t.straps = s.straps := by rfl
  clamped : t.interlock.clamped = s.interlock.clamped := by rfl
  cutState : t.cut.state = s.cut.state := by rfl
  contexts : t.cut.contexts = s.cut.contexts := by rfl
  plan : t.plan = s.plan := by rfl
  scans : ∀ st, (s.scans.get st).state = .idle → (t.scans.get st).state = .idle := by exact fun _ h => h

/-- Nothing that the Pit Interlock or the guards of the steps read is changed, but for the lift state. -/
structure PitFrame (s t : State) : Prop extends StepFrame s t where
  phase : t.interlock.phase = s.interlock.phase := by rfl
  causes : t.interlock.causes = s.interlock.causes := by rfl
  permits : t.interlock.permits = s.interlock.permits := by rfl
  job : t.job = s.job := by rfl
  windows : ∀ j, s.job = some j → supportWindows t j.supportHeight = supportWindows s j.supportHeight := by
    exact fun _ _ => rfl

theorem StepFrame.trans {s t u : State} (first : StepFrame s t) (second : StepFrame t u) : StepFrame s u where
  straps := second.straps.trans first.straps
  clamped := second.clamped.trans first.clamped
  cutState := second.cutState.trans first.cutState
  contexts := second.contexts.trans first.contexts
  plan := second.plan.trans first.plan
  scans st h := second.scans st (first.scans st h)

theorem stationClamped_congr {s t : State} (straps : t.straps = s.straps)
    (clamped : t.interlock.clamped = s.interlock.clamped) (st : Station) : stationClamped t st = stationClamped s st := by
  cases st <;> simp [stationClamped, stationExists, straps, clamped]

theorem stepInFlight_congr {s t : State} (straps : t.straps = s.straps) (contexts : t.cut.contexts = s.cut.contexts)
    (st : Station) : stepInFlight t st = stepInFlight s st := by
  cases st <;> simp [stepInFlight, stationExists, straps, contexts]

theorem planIncludes_congr {s t : State} (plan : t.plan = s.plan) (st : Station) :
    planIncludes t st = planIncludes s st := by
  simp [planIncludes, planRecord, plan]

/-- What the derivation reads: the cause set, the job, the lift state, the windows of the open job, the clamps, and whether a step
is in flight (R1). -/
theorem derivedPhase_congr {s t : State} (causes : t.interlock.causes = s.interlock.causes) (job : t.job = s.job)
    (lift : t.lift.state = s.lift.state)
    (windows : ∀ j, s.job = some j → supportWindows t j.supportHeight = supportWindows s j.supportHeight)
    (clamped : anyClamped t = anyClamped s) (flying : anyStepInFlight t = anyStepInFlight s) :
    derivedPhase t = derivedPhase s := by
  cases open_ : s.job with
  | none => simp [derivedPhase, causes, job, open_]
  | some j => simp [derivedPhase, causes, job, open_, supportHolds, lift, windows j open_, clamped, flying]

theorem PitFrame.derivedPhase {s t : State} (frame : PitFrame s t) (lift : t.lift.state = s.lift.state) :
    derivedPhase t = derivedPhase s := by
  refine derivedPhase_congr frame.causes frame.job lift frame.windows ?_ ?_
  · simp only [anyClamped, stationClamped_congr frame.straps frame.clamped]
  · simp only [anyStepInFlight, stepInFlight_congr frame.straps frame.contexts]

theorem StepFrame.stands {s t : State} (frame : StepFrame s t) (stands : StepsStand s) : StepsStand t := by
  obtain ⟨guarded, next⟩ := stands
  refine ⟨fun st k flies => ?_, fun st k h => ?_⟩
  · rw [frame.contexts] at flies ⊢
    rw [frame.cutState, stationClamped_congr frame.straps frame.clamped, planIncludes_congr frame.plan]
    obtain ⟨clamped, idle, rest⟩ := guarded st k flies
    exact ⟨clamped, frame.scans st idle, rest⟩
  · rw [frame.contexts] at h ⊢
    rw [frame.cutState, planIncludes_congr frame.plan]
    exact next st k h

/-- A command that leaves the phase, the causes, the clamps and the permits keeps the pit where it keeps the steps and the phase
derived. -/
theorem KeepsPit.of_same {s t : State} (straps : t.straps = s.straps)
    (clamped : t.interlock.clamped = s.interlock.clamped) (phase : t.interlock.phase = s.interlock.phase)
    (causes : t.interlock.causes = s.interlock.causes) (permits : t.interlock.permits = s.interlock.permits)
    (steps : StepsStand s → StepsStand t) (derived : PhaseDerived s → StepsStand s → derivedPhase t = derivedPhase s) :
    KeepsPit s t where
  halted h := by unfold HaltedByCauses at h ⊢; rwa [phase, causes]
  permits h st := by rw [permits, phase, stationClamped_congr straps clamped]; exact h st
  steps := steps
  phase h stands := by rw [PhaseDerived, derived h stands, phase]; exact h

theorem KeepsPit.of_frame {s t : State} (frame : PitFrame s t) (lift : t.lift.state = s.lift.state := by rfl) :
    KeepsPit s t :=
  .of_same frame.straps frame.clamped frame.phase frame.causes frame.permits frame.stands
    fun _ _ => frame.derivedPhase lift

theorem postAll_keepsPit (ns : List NoticeBody) (s : State) : KeepsPit s (postAll ns s) := by
  rw [postAll_eq]
  exact .of_frame {}

/-! ## A halt and a derivation keep every property of the pit -/

/-- A lost step leaves a context without a step in flight, and with its next step (R173). -/
theorem lostContext_reads {s : State} (guarded : StepsGuarded s) (st : Station) :
    (lostContext s st).inFlight = none ∧ (lostContext s st).next = (s.cut.contexts.get st).next
      ∧ (lostContext s st).axleDone = (s.cut.contexts.get st).axleDone := by
  unfold lostContext
  cases flying : stepInFlight s st with
  | some k => exact ⟨rfl, rfl, rfl⟩
  | none =>
    refine ⟨?_, rfl, rfl⟩
    rw [Option.eq_none_iff_forall_ne_some]
    intro k flies
    have clamped := (guarded st k flies).1
    simp_all [stationClamped, stepInFlight]

theorem haltEffect_stands {s : State} (cause : HaltCause) (stands : StepsStand s) : StepsStand (haltEffect cause s) := by
  obtain ⟨guarded, next⟩ := stands
  have context : ∀ st, (haltEffect cause s).cut.contexts.get st = lostContext s st := by intro st; cases st <;> rfl
  have state : (haltEffect cause s).cut.state = s.cut.state ∨ (haltEffect cause s).cut.state = .suspended := by
    simp only [haltEffect]; split <;> simp
  refine ⟨fun st k flies => ?_, fun st k h => ?_⟩
  · rw [context, (lostContext_reads guarded st).1] at flies
    cases flies
  · obtain ⟨-, sameNext, sameDone⟩ := lostContext_reads guarded st
    rw [context, sameNext] at h
    obtain ⟨notNone, notPlanned, notDone, included⟩ := next st k h
    rw [context, sameDone]
    obtain same | suspended := state
    · exact ⟨same ▸ notNone, same ▸ notPlanned, notDone, included⟩
    · exact ⟨by simp [suspended], by simp [suspended], notDone, included⟩

theorem halt_stands {s : State} (cause : HaltCause) (stands : StepsStand s) : StepsStand (halt cause s) := by
  rw [halt_eq]
  exact (postAll_keepsPit _ _).steps (haltEffect_stands cause stands)

/-- After a halt both permits are down, as HALTED has them (R8, R11). -/
theorem halt_permits (cause : HaltCause) (s : State) : PermitsFollow (halt cause s) := by
  intro st
  rw [halt_interlock]
  cases st <;> simp [PerStation.get]

/-- After a halt the phase held is the one derived (R1, R11). -/
theorem halt_derived (cause : HaltCause) (s : State) : PhaseDerived (halt cause s) := by
  rw [PhaseDerived, derivedPhase_halted (by simp [halt_interlock]), halt_interlock]

/-- A halt keeps the pit, whatever the pit was like before the event that raised it. -/
theorem halt_keepsPit {s y : State} (cause : HaltCause) (steps : StepsStand s → StepsStand y) : KeepsPit s (halt cause y) where
  halted _ := by simp [HaltedByCauses, halt_interlock]
  permits _ := halt_permits cause y
  steps h := halt_stands cause (steps h)
  phase _ _ := halt_derived cause y

theorem rederive_stands {s : State} (stands : StepsStand s) : StepsStand (rederive s) := by
  cases derived : derivedPhase s with
  | none => rw [rederive_support derived]; exact halt_stands .support stands
  | some p =>
    rw [rederive_eq derived]
    refine (postAll_keepsPit _ _).steps (StepFrame.stands ?_ stands)
    exact {}

/-- After a derivation the permits follow (R8). -/
theorem rederive_permits (s : State) : PermitsFollow (rederive s) := by
  cases derived : derivedPhase s with
  | none =>
    rw [rederive_support derived]
    exact halt_permits .support s
  | some p =>
    rw [rederive_eq derived, postAll_eq]
    intro st
    cases st <;> simp [heldPhase, stationClamped, PerStation.get, stationExists]

/-- After a derivation the phase held is the one derived (R2). -/
theorem rederive_derived (s : State) : PhaseDerived (rederive s) := by
  cases derived : derivedPhase s with
  | none =>
    rw [rederive_support derived]
    exact halt_derived .support s
  | some p => 
    rw [rederive_eq derived, postAll_eq]
    exact derived

/-- A derivation keeps the pit, whatever the pit was like before it. -/
theorem rederive_keepsPit {s y : State} (steps : StepsStand s → StepsStand y) : KeepsPit s (rederive y) where
  halted _ := rederive_haltedByCauses y
  permits _ := rederive_permits y
  steps h := rederive_stands (steps h)
  phase _ _ := rederive_derived y

/-- A raised cause keeps the pit where nothing of the Pit Interlock was changed before it (R10, R12). -/
theorem raiseCause_keepsPit {s y : State} (cause : HaltCause) (frame : StepFrame s y)
    (interlock : y.interlock = s.interlock) : KeepsPit s (raiseCause cause y) := by
  unfold raiseCause
  split
  case isTrue phase =>
    have halted : y.interlock.phase = .halted := by simpa using phase
    have added : StepFrame s (addCause cause y) := frame.trans {}
    exact {
      halted := fun _ => by simp [HaltedByCauses, halted]
      permits := fun h st => by
        rw [stationClamped_congr added.straps added.clamped, addCause_interlock, interlock]
        exact h st
      steps := added.stands
      phase := fun _ _ => by
        rw [PhaseDerived, derivedPhase_halted (by simp), addCause_interlock, halted] }
  case isFalse => exact halt_keepsPit cause frame.stands

/-! ## Commands outside the pit's blocks -/

theorem setPort_keepsPit (s : State) (id : PortId) (q : Port) : KeepsPit s (s.setPort id q) := .of_frame {}

theorem post_keepsPit (n : NoticeBody) (s : State) : KeepsPit s (post n s) := .of_frame {}

theorem changeBound_keepsPit (st : Station) (f : AxleRecord → AxleRecord) (changes : AxleRecord → AxleRecord → ChangeSet)
    (s : State) : KeepsPit s (changeBound st f changes s) := by
  unfold changeBound
  split
  · exact .refl s
  · exact .of_frame {}

theorem bindRecord_keepsPit (identity : List Byte) (b : Binding) (s : State) : KeepsPit s (bindRecord identity b s) := by
  unfold bindRecord
  split
  · exact .refl s
  · exact .of_frame {}

theorem bindPositions_keepsPit (j : Job) (first second : Binding) (s : State) :
    KeepsPit s (bindPositions j first second s) := by
  unfold bindPositions
  split
  · exact bindRecord_keepsPit ..
  · exact (bindRecord_keepsPit ..).trans (bindRecord_keepsPit ..)

theorem serveLoadAxle_keepsPit (i : AxleImage) (s : State) : KeepsPit s (serveLoadAxle i s).1 := by
  unfold serveLoadAxle
  repeat' split
  all_goals exact .of_frame {}

theorem serveReadAxle_keepsPit (identity : List Byte) (s : State) : KeepsPit s (serveReadAxle identity s).1 := by
  unfold serveReadAxle
  repeat' split
  all_goals exact .of_frame {}

theorem serveUnloadAxle_keepsPit (identity : List Byte) (s : State) : KeepsPit s (serveUnloadAxle identity s).1 := by
  unfold serveUnloadAxle
  repeat' split
  all_goals exact .of_frame {}

theorem serveListAxles_keepsPit (start : Nat) (s : State) : KeepsPit s (serveListAxles start s).1 := by
  unfold serveListAxles
  split <;> exact .refl s

theorem serveLoadTemplate_keepsPit (index : Nat) (t : TemplateFields) (s : State) :
    KeepsPit s (serveLoadTemplate index t s).1 := by
  unfold serveLoadTemplate
  repeat' split
  all_goals exact .of_frame {}

theorem serveReadTemplate_keepsPit (index : Nat) (s : State) : KeepsPit s (serveReadTemplate index s).1 := by
  unfold serveReadTemplate
  split <;> exact .refl s

theorem serveLoadDisposition_keepsPit (d : DispositionFields) (s : State) :
    KeepsPit s (serveLoadDisposition d s).1 := by
  unfold serveLoadDisposition
  repeat' split
  all_goals exact .of_frame {}

theorem serveReadMeasure_keepsPit (position : Nat) (s : State) : KeepsPit s (serveReadMeasure position s).1 := by
  unfold serveReadMeasure
  split <;> exact .refl s

theorem serveReadPlan_keepsPit (s : State) : KeepsPit s (serveReadPlan s).1 := by
  unfold serveReadPlan
  split <;> exact .refl s

theorem serveToolChanged_keepsPit (station side life : Nat) (s : State) :
    KeepsPit s (serveToolChanged station side life s).1 := by
  unfold serveToolChanged
  repeat' split
  all_goals exact .of_frame {}

/-! ## SET_CONFIG (R199) -/

/-- Only item 7 stores the window, and only item 9 the trims. -/
theorem storeItem_trims (c : Configuration) (index : Nat) (v : Int) {item : Nat} (other : item ≠ 9) :
    (storeItem c index v item).trims = c.trims := by
  unfold storeItem
  split <;> simp_all

/-- A configuration with the trims of an open job unchanged keeps the pit: another window re-derives the phase (R2, R199). -/
theorem takeConfiguration_keepsPit (c : Configuration) (s : State)
    (trims : PhaseDerived s → s.job.isSome = true → c.trims = s.config.trims) : KeepsPit s (takeConfiguration c s) := by
  have stored : StepFrame s (setConfiguration c s) ∧ (setConfiguration c s).interlock = s.interlock
      ∧ (setConfiguration c s).job = s.job ∧ (setConfiguration c s).lift = s.lift
      ∧ (setConfiguration c s).config = c := by
    unfold setConfiguration
    split <;> exact ⟨{}, rfl, rfl, rfl, rfl⟩
  obtain ⟨frame, interlock, job, lift, config⟩ := stored
  unfold takeConfiguration
  split
  case isTrue => exact rederive_keepsPit frame.stands
  case isFalse same =>
    refine .of_same frame.straps frame.clamped (by rw [interlock]) (by rw [interlock]) (by rw [interlock]) frame.stands
      fun derived _ => PitFrame.derivedPhase { frame with
        phase := by rw [interlock], causes := by rw [interlock], permits := by rw [interlock], job := job
        windows := fun j open_ => ?_ } (by rw [lift])
    have window : c.window = s.config.window := by simp_all
    rw [supportWindows, config, lift, window, trims derived (by simp [open_])]
    rfl

/-- In IDLE no job is open (R1). -/
theorem job_none_of_idle {s : State} (derived : PhaseDerived s) (idle : s.interlock.phase = .idle) : s.job = none := by
  rw [PhaseDerived, idle] at derived
  cases calm : s.interlock.causes.nonempty with
  | true => simp [derivedPhase_halted calm] at derived
  | false =>
    cases job : s.job with
    | none => rfl
    | some j =>
      rw [derivedPhase_open calm job] at derived
      grind

theorem serveSetConfig_keepsPit (item index : Nat) (value : Int) (s : State) :
    KeepsPit s (serveSetConfig item index value s).1 := by
  unfold serveSetConfig
  split
  · exact .refl s
  · split
    · exact .refl s
    case isFalse unmarked =>
      refine takeConfiguration_keepsPit _ s fun derived open_ => storeItem_trims _ _ _ ?_
      rintro rfl
      have idle : s.interlock.phase = .idle := by simpa [itemMarked] using unmarked
      simp [job_none_of_idle derived idle] at open_

/-! ## The lift (Chapter 4) -/

theorem supportWindows_congr {s t : State} (measured : measuredPositions t.lift = measuredPositions s.lift)
    (config : t.config = s.config) (height : Int) : supportWindows t height = supportWindows s height := by
  simp only [measuredPositions, jacksMap, Jacks.mk.injEq] at measured
  obtain ⟨m1, m2, m3, m4⟩ := measured
  simp only [supportWindows, jacksZip, inSupportWindow, config, m1, m2, m3, m4]

/-- A change of the lift that keeps its measured positions re-derives where the lift state changed (R2, R64). -/
theorem rederiveIfLiftChanged_keepsPit {s t : State} (frame : PitFrame s t) :
    KeepsPit s (rederiveIfLiftChanged s.lift.state t) := by
  unfold rederiveIfLiftChanged
  split
  case isTrue same => exact .of_frame frame (by simpa using same)
  case isFalse => exact rederive_keepsPit frame.stands

theorem endShort_frame (s : State) : PitFrame s (endShort s) := by
  rw [endShort_eq, postAll_eq]
  exact {}

theorem stopRamping_frame (s : State) : PitFrame s (stopRamping s) := by
  have ramps : ∀ state stopping, PitFrame s
      (setLift { (dropStaged s).lift with state := state, stopping := stopping } (dropStaged s)) := by
    intro state stopping
    rw [dropStaged_eq, postAll_eq]
    exact {}
  unfold stopRamping
  split
  · exact ramps _ _
  · exact ramps _ _
  · exact ramps _ _
  · exact endShort_frame s
  · exact endShort_frame s
  · exact {}
  · exact {}

theorem stopImmediately_frame (s : State) : PitFrame s (stopImmediately s) := by
  unfold stopImmediately
  split
  · exact endShort_frame s
  · exact {}

/-- A lift fault keeps the pit: its cause is raised (R12, R82). -/
theorem faultLift_keepsPit {s y : State} (cause : HaltCause) (named : Jacks Bool) (frame : StepFrame s y)
    (interlock : y.interlock = s.interlock) : KeepsPit s (faultLift cause named y) := by
  unfold faultLift
  simp only [dropStaged_eq, postWorkingDone_eq, postAll_eq]
  exact raiseCause_keepsPit cause (frame.trans {}) interlock

theorem serveLiftMove_keepsPit (target : Int) (moveClass : Nat) (s : State) :
    KeepsPit s (serveLiftMove target moveClass s).1 := by
  unfold serveLiftMove
  split
  · exact .refl s
  · split
    · exact .refl s
    · split
      · exact .refl s
      · split
        · exact .refl s
        · split
          · split <;> exact .of_frame {}
          · exact rederive_keepsPit (StepFrame.stands {})

@[simp] theorem snapAxis_measured (a : Axis) : (snapAxis a).measured = a.measured := by
  unfold snapAxis
  split <;> rfl

@[simp] theorem advanceAxis_measured (d : Direction) (n : Int) (a : Axis) : (advanceAxis d n a).measured = a.measured := rfl

theorem speedStep_measured (l : Lift) : measuredPositions (speedStep l) = measuredPositions l := by
  unfold speedStep
  split
  · unfold speedUp; simp only []; split <;> rfl
  · rfl
  · rfl
  · rfl
  · rfl

theorem creepStep_measured (l : Lift) : measuredPositions (creepStep l) = measuredPositions l := by
  unfold creepStep
  split <;> rfl

theorem rampStep_measured (l : Lift) : measuredPositions (rampStep l) = measuredPositions l := by
  unfold rampStep
  split <;> rfl

theorem settledLift_measured (l : Lift) : measuredPositions (settledLift l) = measuredPositions l := by
  simp [measuredPositions, settledLift, jacksMap]

theorem positionStep_measured (l : Lift) : measuredPositions (positionStep l) = measuredPositions l := by
  simp [measuredPositions, positionStep, jacksMap]

/-- A profile update moves commands and leaves the measured positions (R70). -/
theorem travel_measured (l : Lift) : measuredPositions (travel l) = measuredPositions l := by
  unfold travel
  split
  · exact settledLift_measured l
  · simp only []
    split
    · rw [settledLift_measured, positionStep_measured, rampStep_measured]
    · rw [positionStep_measured, rampStep_measured]

theorem setLift_frame {l : Lift} {s : State} (measured : measuredPositions l = measuredPositions s.lift) :
    PitFrame s (setLift l s) where
  windows _ _ := supportWindows_congr (s := s) (t := setLift l s) measured rfl _

theorem PitFrame.trans {s t u : State} (first : PitFrame s t) (second : PitFrame t u) : PitFrame s u where
  toStepFrame := first.toStepFrame.trans second.toStepFrame
  phase := second.phase.trans first.phase
  causes := second.causes.trans first.causes
  permits := second.permits.trans first.permits
  job := second.job.trans first.job
  windows j h := (second.windows j (first.job.trans h)).trans (first.windows j h)

theorem profileTick_keepsPit (s : State) : KeepsPit s (profileTick s) := by
  unfold profileTick
  split
  · have started : measuredPositions (speedStep { s.lift with drivesEnabled := true }) = measuredPositions s.lift :=
      speedStep_measured _
    refine rederiveIfLiftChanged_keepsPit ?_
    split
    · exact (setLift_frame started).trans (endShort_frame _)
    · exact setLift_frame (by rw [travel_measured, creepStep_measured, started])
  · exact .refl s

theorem reachTarget_frame (s : State) : StepFrame s (reachTarget s) := by
  unfold reachTarget
  simp only [dropStaged_eq, postWorkingDone_eq, postAll_eq]
  split
  · exact {}
  · split <;> exact {}

/-- A sample in which no window of the open job changes leaves the derivation (R3). -/
theorem windowChanged_eq_false {s t : State} (same : windowChanged s t = false) {j : Job} (job : t.job = some j) :
    supportWindows t j.supportHeight = supportWindows s j.supportHeight := by
  simp only [windowChanged, job] at same
  generalize supportWindows t j.supportHeight = now at same ⊢
  generalize supportWindows s j.supportHeight = was at same ⊢
  obtain ⟨a, b, c, d⟩ := now
  obtain ⟨a', b', c', d'⟩ := was
  simp_all [jacksAny, jacksZip]

theorem takeSample_keepsPit (readings : Jacks Int) (s : State) : KeepsPit s (takeSample readings s) := by
  unfold takeSample
  simp only []
  split
  · exact faultLift_keepsPit _ _ {} rfl
  · split
    · exact faultLift_keepsPit _ _ {} rfl
    · split
      · exact rederive_keepsPit (StepFrame.stands (StepFrame.trans {} (reachTarget_frame _)))
      · unfold handToInterlock
        split
        · exact rederive_keepsPit (StepFrame.stands {})
        case isFalse same =>
          exact .of_frame { windows := fun j open_ => windowChanged_eq_false (by simpa using same) open_ }

theorem expireSettle_keepsPit (s : State) : KeepsPit s (expireSettle s) := by
  unfold expireSettle
  split
  · exact faultLift_keepsPit _ _ {} rfl
  · exact .refl s

/-! ## Clamps and the e-stop chain (Chapter 1) -/

theorem stationClamped_setClamp (s : State) (st other : Station) (clamped : Bool) (differs : other ≠ st) :
    stationClamped (setClamp st clamped s) other = stationClamped s other := by
  simp [stationClamped, stationExists, PerStation.get_set_other _ differs]

/-- A station clamped stays clamped when another, or it itself, is clamped. -/
theorem setClamp_stands {s : State} (st : Station) (stands : StepsStand s) : StepsStand (setClamp st true s) := by
  obtain ⟨guarded, next⟩ := stands
  refine ⟨fun other k flies => ?_, next⟩
  obtain ⟨clamped, rest⟩ := guarded other k flies
  refine ⟨?_, rest⟩
  by_cases same : other = st
  · subst same
    simp_all [stationClamped, stationExists]
  · rwa [stationClamped_setClamp s st other true same]

theorem serveClampRequest_keepsPit (station : Nat) (s : State) : KeepsPit s (serveClampRequest station s).1 := by
  unfold serveClampRequest
  repeat' split
  case isFalse => exact rederive_keepsPit (setClamp_stands _)
  all_goals exact .refl s

/-- A station without a step in flight may be unclamped. -/
theorem setClamp_false_stands {s : State} {st : Station} (still : (s.cut.contexts.get st).inFlight = none)
    (stands : StepsStand s) : StepsStand (setClamp st false s) := by
  obtain ⟨guarded, next⟩ := stands
  refine ⟨fun other k flies => ?_, next⟩
  obtain ⟨clamped, rest⟩ := guarded other k flies
  refine ⟨?_, rest⟩
  by_cases same : other = st
  · subst same
    simp [still] at flies
  · rwa [stationClamped_setClamp s st other false same]

/-- What the guards read after the loss of a step (R173). -/
theorem lostCut_stands {s : State} (st : Station) (cause : SuspendCause) (stands : StepsStand s) :
    StepsStand { s with cut := lostCut s st cause } := by
  obtain ⟨guarded, next⟩ := stands
  have state : (lostCut s st cause).state = s.cut.state
      ∨ s.cut.state = .running ∧ (lostCut s st cause).state = .suspended := by
    simp only [lostCut]
    split
    case isTrue h => exact .inr ⟨by simp_all, rfl⟩
    case isFalse => exact .inl rfl
  obtain ⟨still, sameNext, sameDone⟩ := lostContext_reads guarded st
  have context : ∀ other, ((lostCut s st cause).contexts.get other).next = (s.cut.contexts.get other).next
      ∧ ((lostCut s st cause).contexts.get other).axleDone = (s.cut.contexts.get other).axleDone
      ∧ ∀ k, ((lostCut s st cause).contexts.get other).inFlight = some k → (s.cut.contexts.get other).inFlight = some k := by
    intro other
    by_cases same : other = st
    · subst same
      simp [lostCut, still, sameNext, sameDone]
    · simp [lostCut, PerStation.get_set_other _ same]
  refine ⟨fun other k flies => ?_, fun other k h => ?_⟩
  · obtain ⟨nextSame, doneSame, fliesSame⟩ := context other
    obtain ⟨clamped, idle, cutState, isNext, notDone, included⟩ := guarded other k (fliesSame k flies)
    refine ⟨clamped, idle, ?_, nextSame.trans isNext, doneSame.trans notDone, included⟩
    obtain same | ⟨-, suspended⟩ := state
    · exact same ▸ cutState
    · exact .inr suspended
  · obtain ⟨nextSame, doneSame, -⟩ := context other
    obtain ⟨notNone, notPlanned, notDone, included⟩ := next other k (nextSame ▸ h)
    obtain same | ⟨-, suspended⟩ := state
    · exact ⟨same ▸ notNone, same ▸ notPlanned, doneSame.trans notDone, included⟩
    · exact ⟨by simp [suspended], by simp [suspended], doneSame.trans notDone, included⟩

theorem endedScan_idle (s : State) (st other : Station) (idle : (s.scans.get other).state = .idle) :
    ((s.scans.set st (endedScan s st)).get other).state = .idle := by
  by_cases same : other = st
  · subst same
    rw [PerStation.get_set_same, endedScan]
    split
    · rfl
    · exact idle
  · rwa [PerStation.get_set_other _ same]

theorem unclamp_keepsPit (st : Station) (s : State) : KeepsPit s (unclamp st s) := by
  rw [unclamp_eq]
  refine rederive_keepsPit fun stands => (postAll_keepsPit _ _).steps ?_
  have lost := lostCut_stands st .clampLost stands
  have still : ((lostCut s st .clampLost).contexts.get st).inFlight = none := by
    simp [lostCut, (lostContext_reads stands.1 st).1]
  have ended : StepsStand { s with cut := lostCut s st .clampLost, scans := s.scans.set st (endedScan s st) } :=
    StepFrame.stands (s := { s with cut := lostCut s st .clampLost }) { scans := endedScan_idle s st } lost
  exact StepFrame.stands {} (setClamp_false_stands (st := st) still ended)

theorem serveUnclampReport_keepsPit (station : Nat) (s : State) : KeepsPit s (serveUnclampReport station s).1 := by
  unfold serveUnclampReport
  split
  · exact .refl s
  · simp only [answerOk]
    split
    · exact unclamp_keepsPit ..
    · exact .refl s

theorem serveAckFault_keepsPit (s : State) : KeepsPit s (serveAckFault s).1 := by
  unfold serveAckFault
  repeat' split
  case isFalse => exact rederive_keepsPit (StepFrame.stands {})
  all_goals exact .refl s

theorem assertEstop_keepsPit (s : State) : KeepsPit s (assertEstop s) := by
  have latched : KeepsPit s (setLatch true s) := .of_frame {}
  refine latched.trans ?_
  unfold assertEstop
  simp only []
  split
  case isTrue halted =>
    have raised : addCause .estop (setLatch true s) = raiseCause .estop (setLatch true s) := (if_pos halted).symm
    rw [raised]
    exact raiseCause_keepsPit .estop {} rfl
  case isFalse => exact halt_keepsPit .estop (stopImmediately_frame _).stands

/-! ## The steps and the cut (Chapter 9) -/

/-- A context that may stand at a station: the guards of its step in flight and of its next step (R162, R165, R167). -/
def ContextStands (s : State) (st : Station) (c : CutContext) : Prop :=
  (∀ k, c.inFlight = some k → stationClamped s st = true ∧ (s.scans.get st).state = .idle
      ∧ (s.cut.state = .running ∨ s.cut.state = .suspended) ∧ c.next = some k ∧ c.axleDone = false
      ∧ planIncludes s st = true)
    ∧ ∀ k, c.next = some k →
      s.cut.state ≠ .none ∧ s.cut.state ≠ .planned ∧ c.axleDone = false ∧ planIncludes s st = true

theorem stepsStand_iff (s : State) : StepsStand s ↔ ∀ st, ContextStands s st (s.cut.contexts.get st) :=
  ⟨fun h st => ⟨h.1 st, h.2 st⟩, fun h => ⟨fun st => (h st).1, fun st => (h st).2⟩⟩

theorem setContext_stands {s : State} {st : Station} {c : CutContext} (context : ContextStands s st c)
    (stands : StepsStand s) : StepsStand (setContext st c s) := by
  rw [stepsStand_iff] at stands ⊢
  intro other
  by_cases same : other = st
  · subst same
    rw [setContext_cut, PerStation.get_set_same]
    exact context
  · rw [setContext_cut, PerStation.get_set_other _ same]
    exact stands other

/-- A context without a next step and without a step in flight may stand everywhere. -/
theorem stepsStand_of_blank {s : State}
    (blank : ∀ st, (s.cut.contexts.get st).next = none ∧ (s.cut.contexts.get st).inFlight = none) : StepsStand s :=
  ⟨fun st k h => by simp [(blank st).2] at h, fun st k h => by simp [(blank st).1] at h⟩

/-- Before START_CUT no station has a next step or a step in flight. -/
theorem blank_of_unstarted {s : State} (stands : StepsStand s) (unstarted : s.cut.state = .none ∨ s.cut.state = .planned)
    (st : Station) : (s.cut.contexts.get st).next = none ∧ (s.cut.contexts.get st).inFlight = none := by
  obtain ⟨guarded, next⟩ := stands
  refine ⟨Option.eq_none_iff_forall_ne_some.mpr fun k h => ?_, Option.eq_none_iff_forall_ne_some.mpr fun k h => ?_⟩
  · obtain ⟨notNone, notPlanned, -⟩ := next st k h
    exact unstarted.elim notNone notPlanned
  · obtain ⟨-, -, running | suspended, -⟩ := guarded st k h <;> simp_all

/-- Where the steps are guarded, a step in flight is one at a station that exists. -/
theorem stepInFlight_eq {s : State} (guarded : StepsGuarded s) (st : Station) :
    stepInFlight s st = (s.cut.contexts.get st).inFlight := by
  unfold stepInFlight
  split
  · rfl
  case isFalse missing =>
    refine (Option.eq_none_iff_forall_ne_some.mpr fun k flies => ?_).symm
    have clamped := (guarded st k flies).1
    simp_all [stationClamped]

theorem anyStepInFlight_eq_false {s : State} (still : ∀ st, (s.cut.contexts.get st).inFlight = none) :
    anyStepInFlight s = false := by
  simp [anyStepInFlight, stepInFlight, still]

theorem inFlight_eq_none {s : State} (guarded : StepsGuarded s) (still : anyStepInFlight s = false) (st : Station) :
    (s.cut.contexts.get st).inFlight = none := by
  rw [← stepInFlight_eq guarded]
  simp only [anyStepInFlight, Bool.or_eq_false_iff, Option.isSome_eq_false_iff, Option.isNone_iff_eq_none] at still
  cases st
  · exact still.1
  · exact still.2

/-- The cut may become RUNNING or SUSPENDED with steps in flight, and any state after START_CUT without one. -/
theorem setCutState_stands {s : State} {x : CutState} {cause : Option SuspendCause}
    (admitted : x = .running ∨ x = .suspended
      ∨ (x ≠ .none ∧ x ≠ .planned ∧ ∀ st, (s.cut.contexts.get st).inFlight = none))
    (stands : StepsStand s) : StepsStand (setCutState x cause s) := by
  obtain ⟨guarded, next⟩ := stands
  refine ⟨fun st k flies => ?_, fun st k h => ?_⟩
  · obtain ⟨clamped, idle, -, rest⟩ := guarded st k flies
    refine ⟨clamped, idle, ?_, rest⟩
    obtain running | suspended | ⟨-, -, still⟩ := admitted
    · exact .inl running
    · exact .inr suspended
    · exact absurd flies (by simp [still])
  · obtain ⟨-, -, rest⟩ := next st k h
    obtain rfl | rfl | ⟨notNone, notPlanned, -⟩ := admitted
    · exact ⟨by simp, by simp, rest⟩
    · exact ⟨by simp, by simp, rest⟩
    · exact ⟨notNone, notPlanned, rest⟩

theorem setCutState_keepsPit {s : State} {x : CutState} {cause : Option SuspendCause}
    (admitted : x = .running ∨ x = .suspended ∨ (x ≠ .none ∧ x ≠ .planned ∧ anyStepInFlight s = false)) :
    KeepsPit s (setCutState x cause s) := by
  refine .of_same rfl rfl rfl rfl rfl (fun stands => setCutState_stands ?_ stands) fun _ _ => rfl
  obtain h | h | ⟨notNone, notPlanned, still⟩ := admitted
  · exact .inl h
  · exact .inr (.inl h)
  · exact .inr (.inr ⟨notNone, notPlanned, inFlight_eq_none stands.1 still⟩)

theorem postCutState_keepsPit (before : CutState) (reports : PerStation StepReport) (s : State) :
    KeepsPit s (postCutState before reports s) := post_keepsPit _ s

theorem serveSuspendCut_keepsPit (s : State) : KeepsPit s (serveSuspendCut s).1 := by
  unfold serveSuspendCut
  split
  · exact (setCutState_keepsPit (.inr (.inl rfl))).trans (postCutState_keepsPit ..)
  · exact .refl s
  · exact .refl s

theorem serveResumeCut_keepsPit (s : State) : KeepsPit s (serveResumeCut s).1 := by
  unfold serveResumeCut
  split
  · exact .refl s
  · exact (setCutState_keepsPit (.inl rfl)).trans (postCutState_keepsPit ..)

theorem clearPlan_stands (s : State) : StepsStand (clearPlan s) :=
  stepsStand_of_blank fun st => by cases st <;> exact ⟨rfl, rfl⟩

theorem discardPlan_stands (s : State) : StepsStand (discardPlan s) :=
  stepsStand_of_blank fun st => by cases st <;> exact ⟨rfl, rfl⟩

/-- The plan of a PLANNED cut is discarded with no step in flight (R92, R179). -/
theorem discardPlanned_keepsPit (s : State) : KeepsPit s (discardPlanned s) := by
  unfold discardPlanned
  split
  case isTrue planned =>
    refine KeepsPit.trans ?_ (postCutState_keepsPit ..)
    refine .of_same rfl rfl rfl rfl rfl (fun _ => discardPlan_stands s) fun _ stands => ?_
    have before : anyStepInFlight s = false :=
      anyStepInFlight_eq_false fun st => (blank_of_unstarted stands (.inr (by simpa using planned)) st).2
    have after : anyStepInFlight (discardPlan s) = false :=
      anyStepInFlight_eq_false fun st => by cases st <;> rfl
    exact derivedPhase_congr rfl rfl rfl (fun _ _ => rfl) rfl (after.trans before.symm)
  case isFalse => exact .refl s

theorem appendPartialCut_keepsPit (st : Station) (s : State) : KeepsPit s (appendPartialCut st s) := by
  unfold appendPartialCut
  split
  · split
    · exact changeBound_keepsPit ..
    · exact .refl s
  · exact .refl s

theorem releaseLocks_keepsPit (s : State) : KeepsPit s (releaseLocks s) := .of_frame {}

theorem serveAbandonCut_keepsPit (s : State) : KeepsPit s (serveAbandonCut s).1 := by
  unfold serveAbandonCut
  split
  · exact .refl s
  · split
    · exact .refl s
    case isFalse still =>
      split
      · exact discardPlanned_keepsPit s
      · have abandoned : KeepsPit s (setCutState .abandoned none s) :=
          setCutState_keepsPit (.inr (.inr ⟨by simp, by simp, by simpa using still⟩))
        exact ((((abandoned.trans (releaseLocks_keepsPit _)).trans (postCutState_keepsPit ..)).trans
          (appendPartialCut_keepsPit .one _)).trans (appendPartialCut_keepsPit .two _))

/-- START_CUT opens the contexts of the included axles; none of them has a step in flight (R165). -/
theorem startCut_keepsPit {s : State} (planned : s.cut.state = .planned) : KeepsPit s (startCut s) := by
  refine KeepsPit.trans ?_ (postCutState_keepsPit ..)
  have opened : ∀ st, (openedContext s st).inFlight = none
      ∧ ∀ k, (openedContext s st).next = some k → (openedContext s st).axleDone = false ∧ planIncludes s st = true := by
    intro st
    unfold openedContext
    split
    case isTrue included => exact ⟨rfl, fun _ _ => ⟨rfl, included⟩⟩
    case isFalse => exact ⟨rfl, fun k h => by cases h⟩
  refine .of_same rfl rfl rfl rfl rfl (fun _ => (stepsStand_iff _).mpr fun st => ?_) fun _ stands => ?_
  · have context : (setCutState .running none (setContext .two (openedContext s .two)
        (setContext .one (openedContext s .one) s))).cut.contexts.get st = openedContext s st := by cases st <;> rfl
    rw [context]
    exact ⟨fun k h => by simp [(opened st).1] at h, fun k h => ⟨by simp, by simp, (opened st).2 k h⟩⟩
  · have before : anyStepInFlight s = false :=
      anyStepInFlight_eq_false fun st => (blank_of_unstarted stands (.inr planned) st).2
    refine derivedPhase_congr rfl rfl rfl (fun _ _ => rfl) rfl (.trans ?_ before.symm)
    exact anyStepInFlight_eq_false fun st => by cases st <;> exact (opened _).1

theorem serveStartCut_keepsPit (s : State) : KeepsPit s (serveStartCut s).1 := by
  unfold serveStartCut
  split
  · exact .refl s
  case isFalse planned =>
    repeat' split
    case isFalse => exact startCut_keepsPit (by simpa using planned)
    all_goals exact .refl s

/-- An issued step is the next step of a clamped station without a scan in flight (R166, R167). -/
theorem issueStep_keepsPit {s : State} {st : Station} {step : Nat} (running : s.cut.state = .running)
    (clamped : stationClamped s st = true) (still : scanInFlight s st = false)
    (next : (s.cut.contexts.get st).next = some step) : KeepsPit s (issueStep st step s) := by
  refine rederive_keepsPit fun stands => ?_
  obtain ⟨-, -, notDone, included⟩ := stands.2 st step next
  have idle : (s.scans.get st).state = .idle := by
    cases state : (s.scans.get st).state with
    | idle => rfl
    | collecting => simp_all [scanInFlight, stationClamped]
  refine StepFrame.stands (s := setContext st { s.cut.contexts.get st with
    inFlight := some step, late := none, stepTime := some s.config.stepTime } s) {}
    (setContext_stands ⟨fun k flies => ?_, stands.2 st⟩ stands)
  cases flies
  exact ⟨clamped, idle, .inl running, next, notDone, included⟩

theorem serveTakePass_keepsPit (station : Nat) (s : State) : KeepsPit s (serveTakePass station s).1 := by
  unfold serveTakePass
  split
  · exact .refl s
  · split
    · exact .refl s
    case isFalse running =>
      split
      · exact .refl s
      case isFalse admitted =>
        split
        · exact .refl s
        case isFalse still =>
          split
          · exact .refl s
          · split
            · exact .refl s
            case h_2 step next =>
              unfold offerStep
              simp only []
              split
              · exact .refl s
              · refine issueStep_keepsPit (by simpa using running) ?_ (by simpa using still) next
                simp_all [workAdmitted]

/-- A booked step leaves its context without a step in flight, with the next step of its list or none after the finish step (R169,
R170). -/
theorem bookStep_stands {s : State} {st : Station} {step : Nat} (flies : stepInFlight s st = some step)
    (stands : StepsStand s) : StepsStand (bookStep st step s) := by
  rw [stepInFlight_eq stands.1] at flies
  obtain ⟨-, -, state, -, notDone, included⟩ := stands.1 st step flies
  refine StepFrame.stands (s := setContext st (bookedContext (isFinish s st step) step (s.cut.contexts.get st)) s) {}
    (setContext_stands ⟨fun k h => (by cases h), fun k h => ?_⟩ stands)
  have notFinish : isFinish s st step = false := by
    cases finish : isFinish s st step with
    | false => rfl
    | true => simp [bookedContext, finish] at h
  obtain state | state := state <;> simp [bookedContext, state, notDone, included, notFinish]

/-- A cut whose included axles are done has no step in flight, so it may become COMPLETE (R171). -/
theorem completeCut_stands {s : State} (stands : StepsStand s) : StepsStand (completeCut s) := by
  unfold completeCut
  split
  case isTrue complete =>
    have still : ∀ st, (s.cut.contexts.get st).inFlight = none := by
      refine fun st => Option.eq_none_iff_forall_ne_some.mpr fun k flies => ?_
      obtain ⟨-, -, -, -, notDone, included⟩ := stands.1 st k flies
      cases st <;> simp_all [axlesDone, PerStation.get]
    exact StepFrame.stands (s := setCutState .complete none s) {}
      (setCutState_stands (.inr (.inr ⟨by simp, by simp, still⟩)) stands)
  case isFalse => exact stands

theorem postIf_keepsPit (c : Bool) (n : NoticeBody) (s : State) : KeepsPit s (postIf c n s) := by
  rw [postIf_eq]
  exact postAll_keepsPit ..

theorem bookRecord_keepsPit (st : Station) (first finish : Bool) (s : State) :
    KeepsPit s (bookRecord st first finish s) := by
  unfold bookRecord
  split
  · split
    · exact changeBound_keepsPit ..
    · exact .refl s
  · exact .refl s

theorem completeStep_keepsPit {s : State} {st : Station} {step : Nat} (flies : stepInFlight s st = some step) :
    KeepsPit s (completeStep st step s) := by
  refine KeepsPit.trans (rederive_keepsPit fun stands => ?_) (bookRecord_keepsPit ..)
  exact (postIf_keepsPit ..).steps ((postIf_keepsPit ..).steps ((postCutState_keepsPit ..).steps
    (completeCut_stands (bookStep_stands flies stands))))

/-- A report is carried out only for the step in flight (R169, R175). -/
theorem reportStep_keepsPit {s : State} {st : Station} {step : Nat} {carried : State × Answer}
    (done : stepInFlight s st = some step → KeepsPit s carried.1) : KeepsPit s (reportStep st step carried s).1 := by
  unfold reportStep
  split
  case isTrue flies => exact done flies
  case isFalse => split <;> exact .refl s

theorem servePassDone_keepsPit (station step : Nat) (s : State) : KeepsPit s (servePassDone station step s).1 := by
  unfold servePassDone
  split
  · exact .refl s
  · split
    · exact .refl s
    · exact reportStep_keepsPit completeStep_keepsPit

theorem loseStep_stands {s : State} {st : Station} {step : Nat} (cause : SuspendCause)
    (flies : stepInFlight s st = some step) (stands : StepsStand s) : StepsStand (loseStep st cause s) := by
  have lost := loseStep_if s st cause
  rw [if_pos (by simp [flies])] at lost
  rw [lost]
  exact (postAll_keepsPit ..).steps (lostCut_stands st cause stands)

theorem servePassAborted_keepsPit (station step : Nat) (s : State) : KeepsPit s (servePassAborted station step s).1 := by
  unfold servePassAborted
  split
  · exact .refl s
  · split
    · exact .refl s
    · exact reportStep_keepsPit fun flies => rederive_keepsPit (loseStep_stands .latheAbort flies)

theorem expireStep_keepsPit (st : Station) (s : State) : KeepsPit s (expireStep st s) := by
  unfold expireStep
  split
  · exact .refl s
  case h_2 step flies =>
    split
    · refine rederive_keepsPit fun stands => loseStep_stands (step := step) .timeout ?_ (setContext_stands ?_ stands)
      · rw [← flies]
        cases st <;> rfl
      · exact (stepsStand_iff s).mp stands st
    · exact .refl s

/-! ## Jobs, plans and scans (Chapters 3, 5, 8) -/

theorem serveSetJob_keepsPit (f : JobFields) (s : State) : KeepsPit s (serveSetJob f s).1 := by
  have opens : ∀ j, KeepsPit s (openJob j s) := fun j =>
    (rederive_keepsPit fun _ => clearPlan_stands _).trans (bindPositions_keepsPit ..)
  have single : ∀ first, KeepsPit s (setSingleJob f first s).1 := by
    intro first
    unfold setSingleJob
    repeat' split
    case isFalse => exact opens (openedJob f first none)
    all_goals exact .refl s
  have tandem : ∀ first second, KeepsPit s (setTandemJob f first second s).1 := by
    intro first second
    unfold setTandemJob
    repeat' split
    case isFalse => exact opens (openedJob f first (some second))
    all_goals exact .refl s
  unfold serveSetJob
  split
  · exact .refl s
  · split
    · exact .refl s
    · split
      · exact .refl s
      · split
        · exact single _
        · split
          · exact .refl s
          · split
            · exact .refl s
            · exact tandem _ _

theorem closeCut_stands {s : State} (stands : StepsStand s) : StepsStand (closeCut s) := by
  unfold closeCut
  split
  · exact stands
  · exact (postCutState_keepsPit ..).steps (discardPlan_stands s)

theorem serveCloseJob_keepsPit (s : State) : KeepsPit s (serveCloseJob s).1 := by
  unfold serveCloseJob
  split
  · exact .refl s
  · split
    · exact .refl s
    · refine KeepsPit.trans (rederive_keepsPit fun stands => ?_) (bindPositions_keepsPit ..)
      exact StepFrame.stands (s := closeCut s) {} (closeCut_stands stands)

theorem appendExcluded_keepsPit (p : Plan) (j : Job) (st : Station) (s : State) :
    KeepsPit s (appendExcluded p j st s) := by
  unfold appendExcluded
  split
  · exact changeBound_keepsPit ..
  · exact .refl s

/-- A new plan is placed while no station has a next step or a step in flight (R139, R140). -/
theorem placePlan_keepsPit {s : State} (p : Plan) (unstarted : s.cut.state = .none ∨ s.cut.state = .planned) :
    KeepsPit s (placePlan p s) := by
  have contexts : (placePlan p s).cut.contexts = s.cut.contexts := by unfold placePlan; simp only []; split <;> rfl
  have kept : (placePlan p s).straps = s.straps ∧ (placePlan p s).interlock = s.interlock
      ∧ derivedPhase (placePlan p s) = derivedPhase s := by
    unfold placePlan; simp only []; split <;> exact ⟨rfl, rfl, rfl⟩
  obtain ⟨straps, interlock, derived⟩ := kept
  refine .of_same straps (by rw [interlock]) (by rw [interlock]) (by rw [interlock]) (by rw [interlock]) (fun stands => ?_)
    fun _ _ => derived
  exact stepsStand_of_blank (contexts ▸ blank_of_unstarted stands unstarted)

theorem admitPlan_keepsPit {s : State} (j : Job) (unstarted : s.cut.state = .none ∨ s.cut.state = .planned) :
    KeepsPit s (admitPlan j s) := by
  have placed := (placePlan_keepsPit (computePlan s j) unstarted).trans (post_keepsPit (.planDone (computePlan s j)) _)
  refine KeepsPit.trans (KeepsPit.trans ?_ (appendExcluded_keepsPit ..)) (appendExcluded_keepsPit ..)
  split
  · exact placed.trans (postCutState_keepsPit ..)
  · exact placed

theorem servePlan_keepsPit (s : State) : KeepsPit s (servePlan s).1 := by
  unfold servePlan
  split
  · exact .refl s
  · split
    · exact .refl s
    case isFalse admitted =>
      split
      · exact .refl s
      · exact admitPlan_keepsPit _ (Decidable.or_iff_not_imp_left.mpr (by simpa using admitted))

theorem setScan_keepsPit {s : State} {st : Station} {x : Scan} (ends : (s.scans.get st).state = .idle → x.state = .idle) :
    KeepsPit s (setScan st x s) := by
  refine .of_frame { scans := fun other idle => ?_ }
  by_cases same : other = st
  · subst same
    simpa [setScan] using ends idle
  · simpa [setScan, PerStation.get_set_other _ same] using idle

theorem setMeasurement_keepsPit (st : Station) (m : Measurement) (s : State) : KeepsPit s (setMeasurement st m s) :=
  .of_frame {}

theorem stopScan_keepsPit (st : Station) (s : State) : KeepsPit s (stopScan st s) := setScan_keepsPit fun _ => rfl

theorem setScanSide_keepsPit (c : Channel) (x : ScanSide) (s : State) : KeepsPit s (setScanSide c x s) := setScan_keepsPit id

theorem postScanDone_keepsPit (st : Station) (s : State) : KeepsPit s (postScanDone st s) := post_keepsPit ..

theorem gaugePointTaken_keepsPit (c : Channel) (y z : Int) (s : State) : KeepsPit s (gaugePointTaken c y z s) := by
  unfold gaugePointTaken
  split
  · exact setScanSide_keepsPit ..
  · exact .refl s

theorem handOn_keepsPit (st : Station) (m : Measurement) (s : State) : KeepsPit s (handOn st m s) := by
  have verifies : ∀ x, KeepsPit x (appendVerification st m x) := by
    intro x
    unfold appendVerification
    repeat' split
    · exact changeBound_keepsPit ..
    · exact changeBound_keepsPit ..
    · exact .refl x
    · exact .refl x
  unfold handOn
  split
  · exact .refl s
  · split
    · exact (setMeasurement_keepsPit ..).trans (verifies _)
    · unfold appendMeasure
      split
      · exact changeBound_keepsPit ..
      · exact .refl s

theorem completeIfDue_keepsPit (st : Station) (s : State) : KeepsPit s (completeIfDue st s) := by
  unfold completeIfDue
  split
  · exact (((setMeasurement_keepsPit ..).trans (stopScan_keepsPit ..)).trans (postScanDone_keepsPit ..)).trans
      (handOn_keepsPit ..)
  · exact .refl s

theorem endMarkerTaken_keepsPit (c : Channel) (s : State) : KeepsPit s (endMarkerTaken c s) := by
  unfold endMarkerTaken
  split
  · exact (setScanSide_keepsPit ..).trans (completeIfDue_keepsPit ..)
  · exact .refl s

theorem indexEdgeTaken_keepsPit (st : Station) (s : State) : KeepsPit s (indexEdgeTaken st s) := by
  unfold indexEdgeTaken
  split
  · have captured : KeepsPit s (captureBoth st s) := setScan_keepsPit id
    exact captured.trans (completeIfDue_keepsPit ..)
  · exact .refl s

theorem rollerCountTaken_keepsPit (c : Channel) (s : State) : KeepsPit s (rollerCountTaken c s) := by
  unfold rollerCountTaken
  split
  · exact .of_frame {}
  · exact .refl s

theorem expireScan_keepsPit (st : Station) (s : State) : KeepsPit s (expireScan st s) := by
  unfold expireScan endScan
  repeat' split
  · exact ((setMeasurement_keepsPit ..).trans (stopScan_keepsPit ..)).trans (postScanDone_keepsPit ..)
  · exact postScanDone_keepsPit ..
  · exact .refl s

/-- A scan starts at a station without a step in flight (R90, R91). -/
theorem startScan_keepsPit {s : State} {st : Station} (still : stepInFlight s st = none) : KeepsPit s (startScan st s) := by
  have stillNext : stepInFlight (discardPlanned s) st = none := by
    unfold discardPlanned
    split
    · unfold stepInFlight
      split
      · cases st <;> rfl
      · rfl
    · exact still
  refine (discardPlanned_keepsPit s).trans (KeepsPit.trans (t := setScan st _ (discardPlanned s)) ?_ (setMeasurement_keepsPit ..))
  refine .of_same rfl rfl rfl rfl rfl (fun stands => ?_) fun _ _ => rfl
  refine ⟨fun other k flies => ?_, stands.2⟩
  obtain ⟨clamped, idle, rest⟩ := stands.1 other k flies
  refine ⟨clamped, ?_, rest⟩
  by_cases same : other = st
  · subst same
    rw [stepInFlight_eq stands.1] at stillNext
    exact absurd flies (by simp [stillNext])
  · simpa [setScan, PerStation.get_set_other _ same] using idle

theorem serveStartMeasure_keepsPit (station : Nat) (s : State) : KeepsPit s (serveStartMeasure station s).1 := by
  unfold serveStartMeasure
  repeat' split
  case isFalse still _ => exact startScan_keepsPit (by simpa using still)
  all_goals exact .refl s

/-! ## Links, timers, reset, and the step -/

theorem serveRequest_keepsPit (port : PortId) (r : Request) (s : State) : KeepsPit s (serveRequest port r s).1 := by
  have owner : KeepsPit s (serveOwner port r s).1 := by
    cases r with
    | loadAxle image => exact serveLoadAxle_keepsPit ..
    | readAxle identity => exact serveReadAxle_keepsPit ..
    | unloadAxle identity => exact serveUnloadAxle_keepsPit ..
    | listAxles start => exact serveListAxles_keepsPit ..
    | setJob fields => exact serveSetJob_keepsPit ..
    | closeJob => exact serveCloseJob_keepsPit ..
    | loadTemplate index fields => exact serveLoadTemplate_keepsPit ..
    | readTemplate index => exact serveReadTemplate_keepsPit ..
    | loadDisposition fields => exact serveLoadDisposition_keepsPit ..
    | setConfig item index value => exact serveSetConfig_keepsPit ..
    | clampRequest station => exact serveClampRequest_keepsPit ..
    | unclampReport station => exact serveUnclampReport_keepsPit ..
    | ackFault => exact serveAckFault_keepsPit ..
    | liftMove target moveClass => exact serveLiftMove_keepsPit ..
    | liftStopDecel => exact rederiveIfLiftChanged_keepsPit (stopRamping_frame s)
    | liftStopImmediate => exact rederiveIfLiftChanged_keepsPit (stopImmediately_frame s)
    | startMeasure station => exact serveStartMeasure_keepsPit ..
    | readMeasure position => exact serveReadMeasure_keepsPit ..
    | plan => exact servePlan_keepsPit ..
    | readPlan => exact serveReadPlan_keepsPit ..
    | startCut => exact serveStartCut_keepsPit ..
    | suspendCut => exact serveSuspendCut_keepsPit ..
    | resumeCut => exact serveResumeCut_keepsPit ..
    | abandonCut => exact serveAbandonCut_keepsPit ..
    | takePass station => exact serveTakePass_keepsPit ..
    | passDone station step => exact servePassDone_keepsPit ..
    | passAborted station step => exact servePassAborted_keepsPit ..
    | toolChanged station side life => exact serveToolChanged_keepsPit ..
    | readStatus => exact setPort_keepsPit ..
    | readDisposition | readConfig | unknownCode code | badPayload code => exact .refl s
  unfold serveRequest
  split
  · exact .refl s
  · split
    · exact owner
    · exact .refl s

theorem takeRequest_keepsPit (port : PortId) (w : Waiting) (s : State) : KeepsPit s (takeRequest port w s) :=
  (serveRequest_keepsPit port w.request s).trans (setPort_keepsPit ..)

theorem offerRequest_keepsPit (port : PortId) (w : Waiting) (s : State) : KeepsPit s (offerRequest port w s) := by
  unfold offerRequest
  simp only []
  repeat' split
  · exact setPort_keepsPit ..
  · exact setPort_keepsPit ..
  · exact takeRequest_keepsPit ..

theorem takeWhole_keepsPit (port : PortId) (frameType code tag : Byte) (payload : List Byte) (s : State) :
    KeepsPit s (takeWhole port frameType code tag payload s) := by
  unfold takeWhole
  simp only []
  repeat' split
  · exact setPort_keepsPit ..
  · exact setPort_keepsPit ..
  · exact offerRequest_keepsPit ..

theorem completeFrame_keepsPit (port : PortId) (frameType code tag : Byte) (payload : List Byte) (s : State) :
    KeepsPit s (completeFrame port frameType code tag payload s) := by
  unfold completeFrame
  simp only []
  repeat' split
  · exact setPort_keepsPit ..
  · exact (setPort_keepsPit ..).trans (takeWhole_keepsPit ..)
  · exact (setPort_keepsPit ..).trans (offerRequest_keepsPit ..)
  · exact (setPort_keepsPit ..).trans (takeWhole_keepsPit ..)

theorem receiveByte_keepsPit (port : PortId) (b : Byte) (s : State) : KeepsPit s (receiveByte port b s) := by
  unfold receiveByte judgeFrame
  simp only []
  repeat' split
  · exact setPort_keepsPit ..
  · exact setPort_keepsPit ..
  · exact setPort_keepsPit ..
  · exact setPort_keepsPit ..
  · exact completeFrame_keepsPit ..
  · exact setPort_keepsPit ..

theorem receiveBytes_keepsPit (port : PortId) (bytes : List Byte) (s : State) : KeepsPit s (receiveBytes port bytes s) := by
  induction bytes generalizing s with
  | nil => exact .refl s
  | cons b bytes ih => exact (receiveByte_keepsPit port b s).trans (ih _)

theorem receiveCharacter_keepsPit (port : PortId) (b : Byte) (stopBit : Bool) (s : State) :
    KeepsPit s (receiveCharacter port b stopBit s) := by
  unfold receiveCharacter
  split
  · exact receiveByte_keepsPit ..
  · unfold receiveBroken
    simp only []
    split <;> exact setPort_keepsPit ..

theorem expireByteGap_keepsPit (port : PortId) (s : State) : KeepsPit s (expireByteGap port s) := by
  unfold expireByteGap
  simp only []
  repeat' split
  · exact .refl s
  · exact setPort_keepsPit ..
  · exact setPort_keepsPit ..

theorem endTransmission_keepsPit (port : PortId) (s : State) : KeepsPit s (endTransmission port s) := by
  unfold endTransmission
  split
  · exact .refl s
  · exact setPort_keepsPit ..
  · unfold sendSecond
    simp only []
    split <;> exact setPort_keepsPit ..
  · unfold endReply
    simp only []
    split
    · exact setPort_keepsPit ..
    · exact (setPort_keepsPit ..).trans (takeRequest_keepsPit ..)

theorem takeEvent_keepsPit {f : State → State} {s t : State} (event : KeepsPit s (f s)) (taken : takeEvent f s = .next t) :
    KeepsPit s t := by
  unfold takeEvent at taken
  split at taken <;> cases taken
  · exact .refl s
  · exact event.trans (.of_frame {})

/-- The part at its reset values has every property of the pit, whatever its straps and its encoder readings (R18). -/
theorem released_keepsPit (s : State) (straps : Straps) (encoders : Jacks Int) (pending : List Instr) (inReset : Bool) :
    KeepsPit s { State.released straps encoders with pending := pending, inReset := inReset } where
  halted _ := by simp [HaltedByCauses, State.released, Interlock.reset, CauseSet.nonempty]
  permits _ st := by cases st <;> simp [State.released, Interlock.reset, PerStation.get]
  steps _ := stepsStand_of_blank fun st => by cases st <;> exact ⟨rfl, rfl⟩
  phase _ _ := rfl

theorem releaseReset_keepsPit (pins : ReleasePins) (s : State) : KeepsPit s (releaseReset pins s) := by
  unfold releaseReset
  simp only []
  split
  · exact (released_keepsPit s _ _ _ _).trans (assertEstop_keepsPit _)
  · exact released_keepsPit s _ _ _ _

theorem exec_keepsPit {c : Instr} {s t : State} (run : exec c s = .next t) : KeepsPit s t := by
  cases request : requestOf c with
  | some pw =>
    rw [exec_request request] at run
    exact takeEvent_keepsPit (offerRequest_keepsPit ..) run
  | none =>
    cases c with
    | estopAssertion => exact takeEvent_keepsPit (assertEstop_keepsPit s) run
    | estopRelease => exact takeEvent_keepsPit (.of_frame {}) run
    | jackSample readings => exact takeEvent_keepsPit (takeSample_keepsPit readings s) run
    | profileUpdate => exact takeEvent_keepsPit (profileTick_keepsPit s) run
    | settleTimerExpiry => exact takeEvent_keepsPit (expireSettle_keepsPit s) run
    | gaugePoint channel y z => exact takeEvent_keepsPit (gaugePointTaken_keepsPit channel y z s) run
    | endMarker channel => exact takeEvent_keepsPit (endMarkerTaken_keepsPit channel s) run
    | wheelIndexEdge station => exact takeEvent_keepsPit (indexEdgeTaken_keepsPit station s) run
    | rollerCount channel => exact takeEvent_keepsPit (rollerCountTaken_keepsPit channel s) run
    | scanTimerExpiry station => exact takeEvent_keepsPit (expireScan_keepsPit station s) run
    | stepTimerExpiry station => exact takeEvent_keepsPit (expireStep_keepsPit station s) run
    | frameReceived port bytes => exact takeEvent_keepsPit (receiveBytes_keepsPit port bytes s) run
    | characterReceived port byte stopBit => exact takeEvent_keepsPit (receiveCharacter_keepsPit port byte stopBit s) run
    | byteGapTimerExpiry port => exact takeEvent_keepsPit (expireByteGap_keepsPit port s) run
    | transmitEnd port => exact takeEvent_keepsPit (endTransmission_keepsPit port s) run
    | reset =>
      cases run
      exact released_keepsPit s _ _ _ _
    | resetRelease pins =>
      cases run
      exact (releaseReset_keepsPit pins s).trans (.of_frame {})
    | _ => cases request

theorem tick_keepsPit (s : State) : KeepsPit s (tick s) := by
  unfold tick
  split
  · exact .refl s
  · refine .of_frame { scans := fun st idle => ?_ }
    cases st <;> exact idle

/-- Every step keeps the pit. -/
theorem step_keepsPit {s t : State} (run : step s = .next t) : KeepsPit s t := by
  unfold step at run
  split at run
  · cases run
    exact tick_keepsPit s
  case h_2 c rest _ =>
    have front : KeepsPit s { s with pending := rest } := .of_frame {}
    exact front.trans (exec_keepsPit run)

/-- Settles O58: every step keeps the pit (`step_keepsPit`), its steps and the phase derived among it. -/
theorem phaseAndStepsKept : Obligations.PhaseAndStepsKept := by
  rintro s t ⟨derived, guarded, next⟩ run
  have kept := step_keepsPit run
  exact ⟨kept.phase derived ⟨guarded, next⟩, kept.steps ⟨guarded, next⟩⟩

/-- Settles O52: R1's cases are those of `derivedPhase_open` read through `supportHolds_iff`, `anyClamped_iff` and
`anyStepInFlight_iff`; the derivation is `rederive_eq` and `halt_eq`; that every step keeps R13 is `step_keepsPit`. -/
theorem haltedByCausesKept : Obligations.HaltedByCausesKept := by
  refine ⟨fun s height => rfl, ?_, fun s => ⟨fun p => rederive_eq, fun unsupported => ?_⟩,
    fun s t halted run => (step_keepsPit run).halted halted⟩
  · intro s exists_ clamped cutting
    refine ⟨fun causes => derivedPhase_halted ((CauseSet.nonempty_iff _).mpr causes), fun causes => ?_⟩
    have calm : s.interlock.causes.nonempty = false := by rw [causes]; rfl
    refine ⟨derivedPhase_idle calm, ?_⟩
    intro j job support
    have hSupport : support ↔ supportHolds s j = true := (supportHolds_iff s j).symm
    have hClamped : clamped ↔ anyClamped s = true := (anyClamped_iff s).symm
    have hCutting : cutting ↔ anyStepInFlight s = true := (anyStepInFlight_iff s).symm
    rw [derivedPhase_open calm job, hSupport, hClamped, hCutting]
    grind
  · rw [rederive_support unsupported, halt_eq]

/-- Settles O53: every step keeps the pit (`step_keepsPit`), its permits among it. -/
theorem permitsFollowKept : Obligations.PermitsFollowKept := by
  refine ⟨fun s t follow run => (step_keepsPit run).permits follow, fun s follow single => ?_, invariantsAtReset.2.1, rfl,
    fun pins s t run => ?_⟩
  · have two := follow .two
    simpa [stationClamped, stationExists, single, PerStation.get] using two
  · cases run
    simp only [startTransmitters_interlock, releaseReset]
    cases pins.chainOpen with
    | true => simp only [if_true, assertEstop_released, postAll_eq]
    | false => rfl

end Sys2Proof.Machine
end

section
/-! PROOFS. The statements about the Job Register: the binding of records, the opening and the closing of a job, and the
rows of R47 and R55. -/

namespace Sys2Proof.Machine

/-! ## Answers (R192) -/

theorem answerOk_eq (contents : List Byte) (s : State) : answerOk contents s = (s, okWith contents) := rfl

theorem refuse_eq (r : Result) (s : State) : refuse r s = (s, plainly r) := rfl

theorem refuseWith_eq (r : Result) (fields : List Byte) (s : State) : refuseWith r fields s = (s, ⟨r, fields⟩) := rfl

/-! ## Records under their identity (R24) -/

theorem foundPosition_eq (s : State) (f : Folded) : foundPosition s f = findRecord f.identity s.store := rfl

theorem findRecord_identity {id : List Byte} {store : List AxleRecord} {r : AxleRecord}
    (found : findRecord id store = some r) : r.identity = id := by
  simpa using List.find?_some found

/-- A change that keeps the identity of a record keeps every record under its identity. -/
theorem findRecord_changeRecord (id changed : List Byte) {f : AxleRecord → AxleRecord}
    (keeps : ∀ r, (f r).identity = r.identity) (store : List AxleRecord) :
    findRecord id (changeRecord changed f store)
      = (findRecord id store).map fun r => if r.identity = changed then f r else r := by
  have same : ((fun r : AxleRecord => r.identity == id) ∘ fun r => if r.identity = changed then f r else r)
      = fun r => r.identity == id := by
    funext r
    simp only [Function.comp_apply, apply_ite AxleRecord.identity, keeps, ite_self]
  rw [findRecord, changeRecord, List.find?_map, same]
  rfl

/-! ## Binding (R38) -/

/-- The store with the binding of one record set. -/
def bindStore (id : List Byte) (b : Binding) (store : List AxleRecord) : List AxleRecord :=
  changeRecord id (fun x => { x with binding := b }) store

/-- The store with the bindings of a job's records set, position 1 first. -/
def bindJobStore (j : Job) (first second : Binding) (store : List AxleRecord) : List AxleRecord :=
  match j.position2 with
  | none => bindStore j.position1.identity first store
  | some p => bindStore p.identity second (bindStore j.position1.identity first store)

/-- One RECORD_CHANGED with BINDING for each position of a job. -/
def bindingNotices (j : Job) : List NoticeBody :=
  NoticeBody.recordChanged j.position1.identity .bindingOnly
    :: (j.position2.toList.map fun p => NoticeBody.recordChanged p.identity .bindingOnly)

/-- The store holds a record for each position of a job. -/
def RecordsFound (j : Job) (store : List AxleRecord) : Prop :=
  (∃ r, findRecord j.position1.identity store = some r)
    ∧ ∀ p, j.position2 = some p → ∃ r, findRecord p.identity store = some r

theorem findRecord_bindStore {id : List Byte} {store : List AxleRecord} {r : AxleRecord}
    (found : findRecord id store = some r) (bound : List Byte) (b : Binding) :
    ∃ r', findRecord id (bindStore bound b store) = some r' := by
  have kept := findRecord_changeRecord id bound (f := fun x => { x with binding := b }) (fun _ => rfl) store
  rw [found] at kept
  exact ⟨_, kept⟩

theorem bindRecord_postAll {id : List Byte} {s : State} {r : AxleRecord} (found : findRecord id s.store = some r)
    (b : Binding) (ns : List NoticeBody) :
    bindRecord id b (postAll ns s)
      = postAll (ns ++ [NoticeBody.recordChanged id .bindingOnly]) { s with store := bindStore id b s.store } := by
  rw [postAll_append]
  simp only [bindRecord, postAll_eq, found, findRecord_identity found]
  rfl

/-- Binding a job's records reads no port: the notices before it stay before its own. -/
theorem bindPositions_postAll {j : Job} {s : State} (found : RecordsFound j s.store) (first second : Binding)
    (ns : List NoticeBody) :
    bindPositions j first second (postAll ns s)
      = postAll (ns ++ bindingNotices j) { s with store := bindJobStore j first second s.store } := by
  obtain ⟨⟨r1, found1⟩, found2⟩ := found
  unfold bindPositions bindJobStore bindingNotices
  rw [bindRecord_postAll found1]
  cases position2 : j.position2 with
  | none => rfl
  | some p =>
    obtain ⟨r2, found2⟩ := found2 p position2
    obtain ⟨r2', found2'⟩ := findRecord_bindStore found2 j.position1.identity first
    dsimp only
    rw [bindRecord_postAll found2', List.append_assoc]
    rfl

/-- A derivation and then a binding: the notices before them, PHASE where it changes, then those of the binding. -/
theorem bindPositions_rederive {j : Job} {s : State} {p : Phase} (derived : derivedPhase s = some p)
    (found : RecordsFound j s.store) (first second : Binding) (ns : List NoticeBody) :
    bindPositions j first second (rederive (postAll ns s))
      = postAll (ns ++ phaseNotice s p ++ bindingNotices j)
          { s with
            store := bindJobStore j first second s.store
            interlock := heldPhase s p s.interlock.clamped } := by
  rw [rederive_postAll ns derived, bindPositions_postAll]
  exact found

/-! ## SET_JOB: the fields of row 2 (R46, R47) -/

theorem inRange_iff (lo hi n : Int) : inRange lo hi n = true ↔ lo ≤ n ∧ n ≤ hi := by
  simp [inRange]

theorem secondAbsent_iff (f : JobFields) : secondAbsent f = true ↔ f.orientation2 = 0 ∧ f.identity2 = [] := by
  simp [secondAbsent]

theorem planModeOf_isSome (n : Nat) : (planModeOf n).isSome = true ↔ n ≤ 1 := by
  obtain _ | _ | n := n
  · simp [planModeOf]
  · simp [planModeOf]
  · simp [planModeOf]

theorem orientationOf_isSome (n : Nat) : (orientationOf n).isSome = true ↔ n = 1 ∨ n = 2 := by
  obtain _ | _ | _ | n := n
  · simp [orientationOf]
  · simp [orientationOf]
  · simp [orientationOf]
  · simp [orientationOf]

theorem jobNumbersValid_iff (f : JobFields) :
    jobNumbersValid f = true ↔
      (1 ≤ f.jobNumber ∧ f.jobNumber ≤ 65535) ∧ f.odometer ≤ 9999999 ∧ f.mode ≤ 1 ∧ f.defaultTemplate ≤ 7
        ∧ f.upperIndex ≤ 7 ∧ (-3 ≤ f.bias ∧ f.bias ≤ 3) ∧ (200000 ≤ f.supportHeight ∧ f.supportHeight ≤ 1400000) := by
  simp only [jobNumbersValid, Bool.and_eq_true, inRange_iff, decide_eq_true_eq, planModeOf_isSome]
  omega

theorem jobOrientationsValid_iff (f : JobFields) :
    jobOrientationsValid f = true ↔
      (f.orientation1 = 1 ∨ f.orientation1 = 2)
        ∧ ((f.orientation2 = 0 ∧ f.identity2 = [])
          ∨ ((f.orientation2 = 1 ∨ f.orientation2 = 2) ∧ f.identity2 ≠ [])) := by
  simp [jobOrientationsValid, orientationOf_isSome, secondAbsent_iff]

theorem jobIdentitiesValid_iff (f : JobFields) :
    jobIdentitiesValid f = true ↔ f.identity1.length ≤ 32 ∧ f.identity2.length ≤ 32 := by
  simp [jobIdentitiesValid]

/-- The fields of a SET_JOB pass row 2 of R47. -/
def JobFieldsPass (f : JobFields) : Prop :=
  jobNumbersValid f = true ∧ jobOrientationsValid f = true ∧ jobIdentitiesValid f = true

theorem planModeOf_getD {n : Nat} (valid : n ≤ 1) : (planModeOf n).getD .fast = if n = 0 then .fast else .full := by
  obtain rfl | rfl : n = 0 ∨ n = 1 := by omega
  · rfl
  · rfl

theorem orientationOf_getD {n : Nat} (valid : n = 1 ∨ n = 2) :
    (orientationOf n).getD .aOnL = if n = 1 then .aOnL else .aOnR := by
  obtain rfl | rfl := valid
  · rfl
  · rfl

/-- The orientation of position 2 of a job that names it (R203). -/
theorem orientation2_of_named {f : JobFields} (valid : jobOrientationsValid f = true) (named : secondAbsent f = false) :
    f.orientation2 = 1 ∨ f.orientation2 = 2 := by
  obtain ⟨-, absent | ⟨codes, -⟩⟩ := (jobOrientationsValid_iff f).mp valid
  · rw [(secondAbsent_iff f).mpr absent] at named
    cases named
  · exact codes

/-- The items of the job that an accepted SET_JOB opens, with its codes read (R46, R48). -/
theorem openedJob_eq {f : JobFields} (first : Folded) {second : Option Folded} (numbers : jobNumbersValid f = true)
    (orientations : jobOrientationsValid f = true) (named : second.isSome = true → secondAbsent f = false) :
    openedJob f first second
      = { number := f.jobNumber, odometer := f.odometer
          position1 := ⟨first.identity, if f.orientation1 = 1 then .aOnL else .aOnR⟩
          position2 := second.map fun x => ⟨x.identity, if f.orientation2 = 1 then .aOnL else .aOnR⟩
          mode := if f.mode = 0 then .fast else .full
          defaultTemplate := f.defaultTemplate, upperIndex := f.upperIndex, bias := f.bias
          supportHeight := f.supportHeight } := by
  obtain ⟨-, -, modeCode, -⟩ := (jobNumbersValid_iff f).mp numbers
  obtain ⟨facingCode, -⟩ := (jobOrientationsValid_iff f).mp orientations
  have mode := planModeOf_getD modeCode
  have facing1 := orientationOf_getD facingCode
  cases second with
  | none => simp only [openedJob, mode, facing1, Option.map_none]
  | some x =>
    have facing2 := orientationOf_getD (orientation2_of_named orientations (named rfl))
    simp only [openedJob, mode, facing1, facing2, Option.map_some]

/-! ## SET_JOB: the rows of R47 -/

theorem oneByte_one : oneByte 1 = [1] := rfl

theorem oneByte_two : oneByte 2 = [2] := rfl

/-- Row 1. -/
theorem serveSetJob_busy (f : JobFields) {s : State} (busy : s.interlock.phase ≠ .idle) :
    serveSetJob f s = (s, plainly .interlock) := if_pos (bne_iff_ne.mpr busy)

/-- Row 2. -/
theorem serveSetJob_malformed {f : JobFields} {s : State} (idle : s.interlock.phase = .idle) (bad : ¬ JobFieldsPass f) :
    serveSetJob f s = (s, plainly .form) := by
  have refused : (jobNumbersValid f && jobOrientationsValid f && jobIdentitiesValid f) = false := by
    rw [Bool.eq_false_iff, ne_eq, Bool.and_eq_true, Bool.and_eq_true]
    exact fun ⟨⟨numbers, orientations⟩, identities⟩ => bad ⟨numbers, orientations, identities⟩
  unfold serveSetJob
  simp [idle, refused, refuse_eq]

/-- Rows 3 and 4, and what they leave to the rows after them. -/
theorem serveSetJob_admitted {f : JobFields} {s : State} (idle : s.interlock.phase = .idle) (pass : JobFieldsPass f) :
    (fold f.identity1 = none → serveSetJob f s = (s, ⟨.form, [1]⟩))
    ∧ ∀ first, fold f.identity1 = some first →
      (secondAbsent f = true → serveSetJob f s = setSingleJob f first s)
      ∧ (secondAbsent f = false →
        (fold f.identity2 = none → serveSetJob f s = (s, ⟨.form, [2]⟩))
        ∧ ∀ second, fold f.identity2 = some second →
          (s.straps.stationCount = .single → serveSetJob f s = (s, ⟨.form, [2]⟩))
          ∧ (s.straps.stationCount = .tandem → serveSetJob f s = setTandemJob f first second s)) := by
  obtain ⟨numbers, orientations, identities⟩ := pass
  unfold serveSetJob
  simp only [idle, numbers, orientations, identities, bne_self_eq_false, Bool.and_self, Bool.not_true,
    Bool.false_eq_true, if_false]
  refine ⟨fun unfolded => ?_, fun first folds => ⟨fun absent => ?_, fun named => ⟨fun unfolded => ?_, fun second folds2 =>
    ⟨fun pit => ?_, fun pit => ?_⟩⟩⟩⟩
  · simp only [unfolded, refuseWith_eq, oneByte_one]
  · simp only [folds, absent, if_true]
  · simp only [folds, named, unfolded, Bool.false_eq_true, if_false, refuseWith_eq, oneByte_two]
  · simp [folds, named, folds2, pit, refuseWith_eq, oneByte_two]
  · simp [folds, named, folds2, pit]

/-- Rows 6, 8 and 10 for a job of one position. -/
theorem setSingleJob_rows (f : JobFields) (first : Folded) (s : State) :
    (findRecord first.identity s.store = none → setSingleJob f first s = (s, ⟨.notFound, [1]⟩))
    ∧ ∀ r1, findRecord first.identity s.store = some r1 →
      (r1.condemned = true → setSingleJob f first s = (s, ⟨.form, [1]⟩))
      ∧ (r1.condemned = false →
        let j := openedJob f first none
        setSingleJob f first s
          = answerOk (jobReply j (boundPositionBytes first r1) absentPositionBytes (openJob j s)) (openJob j s)) := by
  unfold setSingleJob
  simp only [foundPosition_eq]
  refine ⟨fun missing => ?_, fun r1 found => ⟨fun condemned => ?_, fun sound => ?_⟩⟩
  · simp only [missing, refuseWith_eq, oneByte_one]
  · simp only [found, condemned, if_true, refuseWith_eq, oneByte_one]
  · simp only [found, sound, Bool.false_eq_true, if_false]

/-- Row 5. -/
theorem setTandemJob_equal (f : JobFields) {first second : Folded} (s : State)
    (equal : first.identity = second.identity) : setTandemJob f first second s = (s, ⟨.form, [2]⟩) := if_pos equal

/-- Rows 6 to 10 for a job of two positions. -/
theorem setTandemJob_rows (f : JobFields) {first second : Folded} (s : State)
    (differ : first.identity ≠ second.identity) :
    (findRecord first.identity s.store = none → setTandemJob f first second s = (s, ⟨.notFound, [1]⟩))
    ∧ ∀ r1, findRecord first.identity s.store = some r1 →
      (findRecord second.identity s.store = none → setTandemJob f first second s = (s, ⟨.notFound, [2]⟩))
      ∧ ∀ r2, findRecord second.identity s.store = some r2 →
        (r1.condemned = true → setTandemJob f first second s = (s, ⟨.form, [1]⟩))
        ∧ (r1.condemned = false → r2.condemned = true → setTandemJob f first second s = (s, ⟨.form, [2]⟩))
        ∧ (r1.condemned = false → r2.condemned = false →
          let j := openedJob f first (some second)
          setTandemJob f first second s
            = answerOk (jobReply j (boundPositionBytes first r1) (boundPositionBytes second r2) (openJob j s))
                (openJob j s)) := by
  unfold setTandemJob
  simp only [differ, foundPosition_eq, if_false]
  refine ⟨fun missing => ?_, fun r1 found => ⟨fun missing => ?_, fun r2 found2 => ⟨fun condemned => ?_,
    fun sound condemned => ?_, fun sound sound2 => ?_⟩⟩⟩
  · simp only [missing, refuseWith_eq, oneByte_one]
  · simp only [found, missing, refuseWith_eq, oneByte_two]
  · simp only [found, found2, condemned, if_true, refuseWith_eq, oneByte_one]
  · simp only [found, found2, sound, condemned, Bool.false_eq_true, if_false, if_true, refuseWith_eq, oneByte_two]
  · simp only [found, found2, sound, sound2, Bool.false_eq_true, if_false]

/-! ## SET_JOB: the job it opens (R48) -/

/-- The phase in which a job opens (R1, R48). -/
def openingPhase (j : Job) (s : State) : Phase := if supportHolds s j then .supported else .staged

/-- The state in which a job stands open (R48). -/
def openedState (j : Job) (s : State) : State :=
  { s with
    job := some j, store := bindJobStore j .position1 .position2 s.store, measurements := ⟨.reset, .reset⟩, plan := none
    cut := emptiedCut s.cut, interlock := heldPhase s (openingPhase j s) s.interlock.clamped }

theorem openJob_eq {j : Job} {s : State} (idle : s.interlock.phase = .idle)
    (calm : s.interlock.causes.nonempty = false) (free : anyClamped s = false) (found : RecordsFound j s.store) :
    openJob j s = postAll (NoticeBody.phase .idle (openingPhase j s) :: bindingNotices j) (openedState j s) := by
  have derived : derivedPhase (clearPlan (resetMeasurements { s with job := some j })) = some (openingPhase j s) := by
    have support : supportHolds (clearPlan (resetMeasurements { s with job := some j })) j = supportHolds s j := rfl
    have unclamped : anyClamped (clearPlan (resetMeasurements { s with job := some j })) = false := free
    rw [derivedPhase_open (s := clearPlan (resetMeasurements { s with job := some j })) calm rfl, support, unclamped,
      openingPhase]
    cases supportHolds s j <;> rfl
  have notice : phaseNotice s (openingPhase j s) = [.phase .idle (openingPhase j s)] := by
    rw [phaseNotice, idle, openingPhase]
    cases supportHolds s j <;> rfl
  have opened := bindPositions_rederive derived found .position1 .position2 []
  rw [← List.singleton_append, ← notice]
  exact opened

/-- Row 10: the notices of an admitted SET_JOB and its reply, which carries the phase after the event (R48). -/
theorem answerOk_openJob {j : Job} {s : State} (idle : s.interlock.phase = .idle)
    (calm : s.interlock.causes.nonempty = false) (free : anyClamped s = false) (found : RecordsFound j s.store)
    (one two : List Byte) :
    answerOk (jobReply j one two (openJob j s)) (openJob j s)
      = (postAll (NoticeBody.phase .idle (openingPhase j s) :: bindingNotices j) (openedState j s),
          okWith (unsignedBytes 2 j.number ++ oneByte (openingPhase j s).code ++ one ++ two)) := by
  have phase : (openJob j s).interlock.phase = openingPhase j s := by
    rw [openJob_eq idle calm free found, postAll_eq]
    rfl
  rw [answerOk_eq, jobReply, phase, openJob_eq idle calm free found]

/-- How a SET_JOB of the depot ends. -/
theorem exec_setJob {tag : Byte} {f : JobFields} {s y : State} {a : Answer} {ns : List NoticeBody}
    (ready : PortReady .depot s) (served : serveSetJob f s = (postAll ns y, a)) (kept : y.ports = s.ports) :
    exec (.setJob .depot tag f) s = .next (carriedOut .depot tag 0x10 a ns y) :=
  exec_served (w := ⟨tag, .setJob f⟩) rfl ready (by simp) rfl served kept

/-- Settles O17: the fields by the lemmas of row 2, each refusal by the lemma of its row, and the job opened by
`answerOk_openJob`. -/
theorem setJob : Obligations.SetJob := by
  refine ⟨⟨fun f => ⟨secondAbsent_iff f, jobNumbersValid_iff f, jobOrientationsValid_iff f⟩, ?_⟩, ?_, ?_⟩
  · intro f first second numbers orientations named facing
    exact ⟨rfl, openedJob_eq first numbers orientations named⟩
  · intro tag f first r1 s ready idle calm free numbers orientations folds found sound opened bind entry
    have short1 := (fold_length folds).2
    refine ⟨fun absent => ?_, fun second r2 named pit folds2 differ found2 sound2 => ?_⟩
    · have short2 : f.identity2.length ≤ 32 := by simp [((secondAbsent_iff f).mp absent).2]
      have pass : JobFieldsPass f := ⟨numbers, orientations, (jobIdentitiesValid_iff f).mpr ⟨short1, short2⟩⟩
      obtain ⟨-, folded⟩ := serveSetJob_admitted (s := s) idle pass
      obtain ⟨single, -⟩ := folded first folds
      obtain ⟨-, kept⟩ := setSingleJob_rows f first s
      obtain ⟨-, opens⟩ := kept r1 found
      have records : RecordsFound (openedJob f first none) s.store := ⟨⟨r1, found⟩, fun p h => nomatch h⟩
      have served := (single absent).trans <| (opens sound).trans <| answerOk_openJob idle calm free records ..
      exact exec_setJob ready served rfl
    · have pass : JobFieldsPass f :=
        ⟨numbers, orientations, (jobIdentitiesValid_iff f).mpr ⟨short1, (fold_length folds2).2⟩⟩
      obtain ⟨-, folded⟩ := serveSetJob_admitted (s := s) idle pass
      obtain ⟨-, folded2⟩ := (folded first folds).2 named
      obtain ⟨-, tandem⟩ := folded2 second folds2
      obtain ⟨-, kept⟩ := setTandemJob_rows f s differ
      obtain ⟨-, kept2⟩ := kept r1 found
      obtain ⟨-, -, opens⟩ := kept2 r2 found2
      have records : RecordsFound (openedJob f first (some second)) s.store :=
        ⟨⟨r1, found⟩, fun p h => by cases h; exact ⟨r2, found2⟩⟩
      have served := (tandem pit).trans <| (opens sound sound2).trans <| answerOk_openJob idle calm free records ..
      exact exec_setJob ready served rfl
  · intro tag f s ready answered short
    have refused : ∀ {r position}, serveSetJob f s = (s, ⟨r, position⟩) → answered r position :=
      fun served => exec_setJob (ns := []) ready served rfl
    refine ⟨fun busy => refused (serveSetJob_busy f busy), fun idle bad => refused (serveSetJob_malformed idle ?_), ?_⟩
    · rintro ⟨numbers, orientations, identities⟩
      simp [numbers, orientations, short, (jobIdentitiesValid_iff f).mp identities] at bad
    · intro idle numbers orientations lengths
      have pass : JobFieldsPass f := ⟨numbers, orientations, (jobIdentitiesValid_iff f).mpr lengths⟩
      obtain ⟨row3, folded⟩ := serveSetJob_admitted (s := s) idle pass
      refine ⟨fun unfolded => refused (row3 unfolded), fun first folds => ?_⟩
      obtain ⟨single, folded2⟩ := folded first folds
      refine ⟨fun absent => ?_, fun named => ?_⟩
      · obtain ⟨row6, kept⟩ := setSingleJob_rows f first s
        exact ⟨fun missing => refused ((single absent).trans (row6 missing)), fun r1 found condemned =>
          refused ((single absent).trans ((kept r1 found).1 condemned))⟩
      · obtain ⟨row3, folded2⟩ := folded2 named
        refine ⟨fun unfolded => refused (row3 unfolded), fun second folds2 => ?_⟩
        obtain ⟨row4, tandem⟩ := folded2 second folds2
        refine ⟨fun pit => refused (row4 pit), fun pit => ⟨fun equal => ?_, fun differ => ?_⟩⟩
        · exact refused ((tandem pit).trans (setTandemJob_equal f s equal))
        · obtain ⟨row6, kept⟩ := setTandemJob_rows f s differ
          refine ⟨fun missing => refused ((tandem pit).trans (row6 missing)), fun r1 found => ?_⟩
          obtain ⟨row7, kept2⟩ := kept r1 found
          refine ⟨fun missing => refused ((tandem pit).trans (row7 missing)), fun r2 found2 => ?_⟩
          obtain ⟨row8, row9, -⟩ := kept2 r2 found2
          exact ⟨fun condemned => refused ((tandem pit).trans (row8 condemned)), fun sound condemned =>
            refused ((tandem pit).trans (row9 sound condemned))⟩

/-! ## CLOSE_JOB (R55, R56) -/

/-- The CUT_STATE of a CLOSE_JOB, where a plan stood (R56, step 1). -/
def closeCutNotices (j : Job) (s : State) : List NoticeBody :=
  onlyIf (s.cut.state != .none) [.cutState j.number s.cut.state .none none noReports ⟨none, none⟩]

/-- The state of a CLOSE_JOB before its derivation: the plan and its locks gone, the measurements NONE, no job (R56). -/
def jobCleared (s : State) : State :=
  { s with
    job := none, measurements := ⟨.reset, .reset⟩
    plan := if s.cut.state != .none then none else s.plan
    cut := if s.cut.state != .none then emptiedCut s.cut else s.cut
    slots := if s.cut.state != .none then unlocked s.slots else s.slots }

theorem clearJob_closeCut_eq {j : Job} {s : State} (open_ : s.job = some j) :
    clearJob (resetMeasurements (closeCut s)) = postAll (closeCutNotices j s) (jobCleared s) := by
  have number : jobNumber (discardPlan s) = j.number := by simp [jobNumber, open_]
  unfold closeCut closeCutNotices jobCleared bne
  cases s.cut.state == .none with
  | true => rfl
  | false =>
    simp only [postCutState, number]
    rfl

theorem closeJob_eq {j : Job} {s : State} (open_ : s.job = some j) (calm : s.interlock.causes.nonempty = false)
    (found : RecordsFound j s.store) :
    closeJob j s
      = postAll (closeCutNotices j s ++ phaseNotice s .idle ++ bindingNotices j)
          { jobCleared s with
            store := bindJobStore j .none .none s.store
            interlock := heldPhase s .idle s.interlock.clamped } := by
  have derived : derivedPhase (jobCleared s) = some .idle := derivedPhase_idle calm rfl
  rw [closeJob, clearJob_closeCut_eq open_]
  exact bindPositions_rederive derived found .none .none _

theorem serveCloseJob_refused {s : State}
    (bad : s.job = none ∨ s.interlock.phase = .halted ∨ cutUnderWay s = true ∨ anyClamped s = true) :
    serveCloseJob s = (s, plainly .interlock) := by
  unfold serveCloseJob
  cases open_ : s.job with
  | none => rfl
  | some j =>
    have row : (s.interlock.phase == .halted || cutUnderWay s || anyClamped s) = true := by
      simpa [open_, or_assoc] using bad
    simp only [row, if_true, refuse_eq]

theorem serveCloseJob_admitted {j : Job} {s : State} (open_ : s.job = some j) (running : s.interlock.phase ≠ .halted)
    (rests : cutUnderWay s = false) (free : anyClamped s = false) :
    serveCloseJob s = answerOk (unsignedBytes 2 j.number) (closeJob j s) := by
  unfold serveCloseJob
  simp [open_, running, rests, free]

/-- The role of a CLOSE_JOB (R190): every port but the lathe. -/
theorem roleAllows_closeJob {port : PortId} (other : port ≠ .lathe) : roleAllows (Request.closeJob).code port = true := by
  cases port with
  | lathe => exact absurd rfl other
  | depot | console => rfl

end Sys2Proof.Machine

namespace Sys2Proof

open Sys2Proof.Machine

/-- Settles O18: the refusals of R55, and otherwise the state and the notices of `closeJob_eq`. -/
theorem closeJob : Obligations.CloseJob := by
  intro port tag s ready other
  have closes : ∀ {y a ns}, serveCloseJob s = (postAll ns y, a) → y.ports = s.ports →
      exec (.closeJob port tag) s = .next (carriedOut port tag 0x11 a ns y) :=
    exec_served (w := ⟨tag, .closeJob⟩) rfl ready (by simp) (roleAllows_closeJob other)
  refine ⟨fun bad => closes (ns := []) (serveCloseJob_refused bad) rfl, ?_⟩
  intro j open_ running calm rests free found1 found2 unbind cutEnds
  have records : RecordsFound j s.store := ⟨found1, fun p second => (found2 p second).2⟩
  have served := serveCloseJob_admitted open_ running rests free
  rw [answerOk_eq, closeJob_eq open_ calm records, bindingNotices, ← List.singleton_append,
    ← List.append_assoc] at served
  exact closes served rfl

end Sys2Proof
end

section
/-! PROOFS. The statements about the Scan Unit: START_MEASURE, the events that feed a scan, and the bounds of the point lists and
the captures. -/

namespace Sys2Proof.Machine

/-- An event outside reset leaves what its function computes, and then the idle transmitters choose (R193). -/
theorem takeEvent_computed {f : State → State} {s t : State} (free : s.inReset = false) (computed : f s = t) :
    takeEvent f s = .next (startTransmitters t) := by
  rw [takeEvent_released f s free, computed]

/-! ## Gauge points (R93 to R95) -/

theorem pointInRange_iff (y z : Int) :
    pointInRange y z = true ↔ (0 ≤ y ∧ y ≤ 160000) ∧ (-250000 ≤ z ∧ z ≤ 250000) := by
  rw [pointInRange, Bool.and_eq_true, inRange_iff, inRange_iff]

theorem pointInOrder_iff (points : List Point) (y : Int) :
    pointInOrder points y = true ↔ ∀ p, points.getLast? = some p → p.y < y := by
  unfold pointInOrder
  cases points.getLast? <;> simp

/-- An event of a channel is not taken without a scan in flight or after the end marker of the channel (R93, R96). -/
theorem not_taken {flying marked : Bool} (shut : flying = false ∨ marked = true) : ¬ (flying && !marked) = true := by
  revert flying marked
  decide

theorem taken {flying marked : Bool} (flies : flying = true) (unmarked : marked = false) : (flying && !marked) = true := by
  rw [flies, unmarked, Bool.not_false, Bool.and_true]

/-- A point out of range or out of order is discarded and counted; one that passes both tests is kept where the list has room, and
otherwise sets TRUNCATED (R93 to R95). -/
theorem takePoint_rows (refRadius y z : Int) (x : ScanSide) :
    (¬ (pointInRange y z = true ∧ pointInOrder x.points y = true) → takePoint refRadius y z x = countDisorder x)
      ∧ (pointInRange y z = true → pointInOrder x.points y = true →
        (x.points.length < 512 → takePoint refRadius y z x = { x with points := x.points ++ [⟨y, refRadius + z⟩] })
        ∧ (512 ≤ x.points.length → takePoint refRadius y z x = { x with truncated := true })) := by
  unfold takePoint
  cases pointInRange y z with
  | false => exact ⟨fun _ => rfl, nofun⟩
  | true =>
    cases pointInOrder x.points y with
    | false => exact ⟨fun _ => rfl, nofun⟩
    | true =>
      exact ⟨fun bad => absurd ⟨rfl, rfl⟩ bad,
        fun _ _ => ⟨fun room => if_pos room, fun full => if_neg (Nat.not_lt.mpr full)⟩⟩

/-- A point is taken while a scan is in flight and its end marker is not in (R93). -/
theorem gaugePointTaken_rows (c : Channel) (y z : Int) (s : State) :
    (scanInFlight s c.station = false ∨ (scanSide s c).endMarker = true → gaugePointTaken c y z s = s)
      ∧ (scanInFlight s c.station = true → (scanSide s c).endMarker = false →
        gaugePointTaken c y z s
          = setScanSide c (takePoint ((s.config.refRadius.get c.station).get c.side) y z (scanSide s c)) s) :=
  ⟨fun shut => if_neg (not_taken shut), fun flies unmarked => if_pos (taken flies unmarked)⟩

/-- Settles O36: a point is taken or not (`gaugePointTaken_rows`), and a point that is taken passes its tests or not
(`takePoint_rows`). -/
theorem gaugePoint : Obligations.GaugePoint := by
  intro c y z s free scan side put ranged ordered
  have event : ∀ {t}, gaugePointTaken c y z s = t → exec (.gaugePoint c y z) s = .next (happened [] t) :=
    takeEvent_computed free
  have range : pointInRange y z = true ↔ ranged := pointInRange_iff y z
  have order : pointInOrder side.points y = true ↔ ordered := pointInOrder_iff side.points y
  obtain ⟨refused, kept⟩ := gaugePointTaken_rows c y z s
  obtain ⟨discarded, passed⟩ := takePoint_rows ((s.config.refRadius.get c.station).get c.side) y z side
  refine ⟨fun shut => event (refused shut), fun flying unmarked => ?_⟩
  have puts : ∀ {x}, takePoint ((s.config.refRadius.get c.station).get c.side) y z side = x →
      exec (.gaugePoint c y z) s = .next (happened [] (put x)) := by
    rintro _ rfl
    exact event (kept flying unmarked)
  rw [range, order] at discarded passed
  exact ⟨fun bad => puts (discarded bad), fun inRange inOrder room => puts ((passed inRange inOrder).1 room),
    fun inRange inOrder full => puts ((passed inRange inOrder).2 full)⟩

/-! ## End markers, wheel-index edges and roller counts (R89, R96 to R98) -/

/-- A scan has all of its parts: both end markers and five captures in each list (R98). -/
theorem scanComplete_iff (x : Scan) : scanComplete x = true ↔
    x.sides.l.endMarker = true ∧ x.sides.r.endMarker = true ∧ x.sides.l.captures.length = 5
      ∧ x.sides.r.captures.length = 5 := by
  simp [scanComplete, captureLimit, and_assoc]

/-- An end marker is taken once in a scan in flight (R96). -/
theorem endMarkerTaken_rows (c : Channel) (s : State) :
    (scanInFlight s c.station = false ∨ (scanSide s c).endMarker = true → endMarkerTaken c s = s)
      ∧ (scanInFlight s c.station = true → (scanSide s c).endMarker = false →
        endMarkerTaken c s = completeIfDue c.station (setScanSide c { scanSide s c with endMarker := true } s)) :=
  ⟨fun shut => if_neg (not_taken shut), fun flies unmarked => if_pos (taken flies unmarked)⟩

theorem capturesOpen_iff (x : Scan) :
    capturesOpen x = true ↔ x.sides.l.captures.length < 5 ∧ x.sides.r.captures.length < 5 := by
  rw [capturesOpen, Bool.and_eq_true, decide_eq_true_iff, decide_eq_true_iff, captureLimit]

/-- An index edge is taken in a scan in flight while both lists have room (R97). -/
theorem indexEdgeTaken_rows (st : Station) (s : State) :
    (scanInFlight s st = false ∨ ¬ capturesOpen (s.scans.get st) = true → indexEdgeTaken st s = s)
      ∧ (scanInFlight s st = true → capturesOpen (s.scans.get st) = true →
        indexEdgeTaken st s = completeIfDue st (captureBoth st s)) := by
  refine ⟨fun shut => if_neg fun both => ?_, fun flies room => if_pos ((Bool.and_eq_true _ _).mpr ⟨flies, room⟩)⟩
  obtain ⟨flies, room⟩ := (Bool.and_eq_true _ _).mp both
  exact shut.elim (fun still => Bool.false_ne_true (still.symm.trans flies)) (fun full => full room)

/-- An event that brings a scan to `x` ends it where `x` has all of its parts, and otherwise leaves it at `x` (R98). -/
theorem completeIfDue_setScan (st : Station) (x : Scan) (s : State) :
    (¬ scanComplete x = true → completeIfDue st (setScan st x s) = setScan st x s)
      ∧ (scanComplete x = true → completeIfDue st (setScan st x s) = finishScan st (setScan st x s)) := by
  have now : (setScan st x s).scans.get st = x := PerStation.get_set_same ..
  rw [completeIfDue, now]
  exact ⟨fun short => if_neg short, fun whole => if_pos whole⟩

/-- Settles O37: each event is taken or not, and one that is taken ends the scan where it gives it the last of its parts
(`completeIfDue_setScan`). -/
theorem markersAndCaptures : Obligations.MarkersAndCaptures := by
  intro s free whole
  have parts : ∀ x : Scan, scanComplete x = true ↔ whole x := scanComplete_iff
  refine ⟨?_, ?_, ?_⟩
  · intro c scan side marked y
    have event : ∀ {t}, endMarkerTaken c s = t → exec (.endMarker c) s = .next (startTransmitters t) :=
      takeEvent_computed free
    obtain ⟨refused, marks⟩ := endMarkerTaken_rows c s
    obtain ⟨short, ends⟩ := completeIfDue_setScan c.station marked s
    rw [← parts marked]
    exact ⟨fun shut => event (refused shut), fun flying unmarked =>
      ⟨fun h => event ((marks flying unmarked).trans (short h)), fun h => event ((marks flying unmarked).trans (ends h))⟩⟩
  · intro st scan counts captured y room
    have event : ∀ {t}, indexEdgeTaken st s = t → exec (.wheelIndexEdge st) s = .next (startTransmitters t) :=
      takeEvent_computed free
    have opened : capturesOpen scan = true ↔ room := capturesOpen_iff scan
    obtain ⟨refused, captures⟩ := indexEdgeTaken_rows st s
    obtain ⟨short, ends⟩ := completeIfDue_setScan st captured s
    rw [← opened, ← parts captured]
    exact ⟨fun shut => event (refused shut), fun flying open_ =>
      ⟨fun h => event ((captures flying open_).trans (short h)), fun h => event ((captures flying open_).trans (ends h))⟩⟩
  · intro c counts
    have event : ∀ {t}, rollerCountTaken c s = t → exec (.rollerCount c) s = .next (happened [] t) :=
      takeEvent_computed free
    exact ⟨fun missing => event (if_neg (by rw [missing]; exact Bool.false_ne_true)), fun here => event (if_pos here)⟩

/-! ## START_MEASURE (R90 to R92) -/

theorem workAdmitted_iff (s : State) (st : Station) : workAdmitted s st = true ↔ WorkAdmitted s st := by
  simp only [workAdmitted, WorkAdmitted, Bool.and_eq_true, Bool.or_eq_true, beq_iff_eq]

theorem underWay_iff (s : State) (st : Station) : (cutUnderWay s && stepsRemaining s st) = true ↔
    (s.cut.state = .running ∨ s.cut.state = .suspended) ∧ planIncludes s st = true
      ∧ (s.cut.contexts.get st).axleDone = false := by
  simp only [cutUnderWay, stepsRemaining, Bool.and_eq_true, Bool.or_eq_true, beq_iff_eq, Bool.not_eq_true']

/-- Rows 2 to 6 of R90 for a station that exists. -/
theorem serveStartMeasure_rows {s : State} {station : Nat} {st : Station} (named : stationArg s station = some st) :
    let busy := scanInFlight s st = true ∨ (stepInFlight s st).isSome = true
      ∨ (cutUnderWay s && stepsRemaining s st) = true
    (¬ workAdmitted s st = true → serveStartMeasure station s = refuse .interlock s)
      ∧ (workAdmitted s st = true → busy → serveStartMeasure station s = refuse .busy s)
      ∧ (workAdmitted s st = true → ¬ busy → serveStartMeasure station s
          = answerOk (oneByte (stationNumber st) ++ unsignedBytes 4 s.config.scanTime) (startScan st s)) := by
  intro busy
  simp only [serveStartMeasure, named]
  refine ⟨fun barred => if_pos (by rw [eq_false_of_ne_true barred, Bool.not_false]), fun admitted held => ?_,
    fun admitted idle => ?_⟩
  · rw [admitted, Bool.not_true, if_neg Bool.false_ne_true]
    by_cases scanning : scanInFlight s st = true
    · rw [if_pos scanning]
    · by_cases flying : (stepInFlight s st).isSome = true
      · rw [if_neg scanning, if_pos flying]
      · rw [if_neg scanning, if_neg flying, if_pos ((held.resolve_left scanning).resolve_left flying)]
  · obtain ⟨scanning, rest⟩ := not_or.mp idle
    obtain ⟨flying, cuts⟩ := not_or.mp rest
    rw [admitted, Bool.not_true, if_neg Bool.false_ne_true, if_neg scanning, if_neg flying, if_neg cuts]

theorem stationNumber_of_named {s : State} {station : Nat} {st : Station} (named : stationArg s station = some st) :
    stationNumber st = station := by
  obtain ⟨rfl, rfl⟩ | ⟨rfl, rfl, -⟩ := (stationArg_iff s station st).mp named <;> rfl

/-- The CUT_STATE of a START_MEASURE, where it discards a PLANNED plan (R92). -/
def discardNotices (s : State) : List NoticeBody :=
  onlyIf (s.cut.state == .planned) [.cutState (jobNumber s) .planned .none none noReports ⟨none, none⟩]

/-- A PLANNED plan is gone with its locks (R92). -/
def plannedDiscarded (s : State) : State :=
  { s with
    plan := if s.cut.state == .planned then none else s.plan
    cut := if s.cut.state == .planned then emptiedCut s.cut else s.cut
    slots := if s.cut.state == .planned then unlocked s.slots else s.slots }

theorem discardPlanned_eq (s : State) : discardPlanned s = postAll (discardNotices s) (plannedDiscarded s) := by
  unfold discardPlanned discardNotices plannedDiscarded
  cases s.cut.state == .planned <;> rfl

/-- An accepted START_MEASURE discards the plan with its notice and then starts the scan (R91). -/
theorem startScan_eq (st : Station) (s : State) :
    startScan st s = postAll (discardNotices s)
      (setMeasurement st (startedMeasurement s (s.measurements.get st))
        (setScan st (startedScan s.config.scanTime) (plannedDiscarded s))) := by
  rw [startScan, discardPlanned_eq]
  simp only [postAll_eq]
  rfl

/-- Settles O35: the rows of R90 (`serveStartMeasure_rows`), and the scan that an admitted request starts (`startScan_eq`). -/
theorem startMeasure : Obligations.StartMeasure := by
  intro tag station s ready answered
  have ends {y : State} {a : Answer} {ns : List NoticeBody} (served : serveStartMeasure station s = (postAll ns y, a))
      (kept : y.ports = s.ports) : exec (.startMeasure .lathe tag station) s = .next (carriedOut .lathe tag 0x40 a ns y) :=
    exec_served (w := ⟨tag, .startMeasure station⟩) rfl ready (by simp) rfl served kept
  have refused : ∀ {r}, serveStartMeasure station s = refuse r s → answered r := fun served => ends (ns := []) served rfl
  refine ⟨fun missing => refused (by rw [serveStartMeasure, missing]), ?_⟩
  intro st named busy
  obtain ⟨barred, held, starts⟩ := serveStartMeasure_rows named
  rw [workAdmitted_iff] at barred
  rw [workAdmitted_iff, underWay_iff] at held starts
  refine ⟨fun h => refused (barred h), fun h b => refused (held h b), ?_⟩
  intro admitted idle discards
  have served := starts admitted idle
  rw [stationNumber_of_named named, startScan_eq] at served
  exact ends served rfl

/-! ## The bounds of the lists of a scan (R88, R94, R95, R97) -/

/-- The lists of a side keep their bounds, and its points ascend strictly in y. -/
def SideBounded (x : ScanSide) : Prop :=
  x.points.length ≤ 512 ∧ x.points.Pairwise (fun a b => a.y < b.y) ∧ x.disorder ≤ 65535 ∧ x.captures.length ≤ 5

/-- Both sides of a station keep their bounds and hold equally many captures. -/
def SidesBounded (p : Sides ScanSide) : Prop :=
  (∀ sd, SideBounded (p.get sd)) ∧ p.l.captures.length = p.r.captures.length

theorem scansBounded_iff (s : State) : ScansBounded s ↔ ∀ st, SidesBounded (s.scans.get st).sides := Iff.rfl

/-- A point after the last of an ascending list, and above it, leaves the list ascending (R94). -/
theorem pairwise_append_point {points : List Point} {q : Point} (ascends : points.Pairwise (fun a b => a.y < b.y))
    (above : ∀ p, points.getLast? = some p → p.y < q.y) : (points ++ [q]).Pairwise (fun a b => a.y < b.y) := by
  refine List.pairwise_append.mpr ⟨ascends, List.pairwise_singleton .., fun a among b last => ?_⟩
  rw [List.mem_singleton.mp last]
  cases final : points.getLast? with
  | none =>
    rw [List.getLast?_eq_none_iff.mp final] at among
    cases among
  | some p =>
    have lastBelow : p.y < q.y := above p final
    obtain ⟨front, rfl⟩ := List.getLast?_eq_some_iff.mp final
    obtain ⟨-, -, below⟩ := List.pairwise_append.mp ascends
    obtain inFront | isLast := List.mem_append.mp among
    · exact Int.lt_trans (below a inFront p (List.mem_singleton.mpr rfl)) lastBelow
    · rwa [List.mem_singleton.mp isLast]

theorem takePoint_captures (refRadius y z : Int) (x : ScanSide) : (takePoint refRadius y z x).captures = x.captures := by
  unfold takePoint countDisorder
  split
  · rfl
  · split
    · rfl
    · split <;> rfl

theorem countDisorder_bounded {x : ScanSide} (bounded : SideBounded x) : SideBounded (countDisorder x) := by
  obtain ⟨points, ascends, disorder, captures⟩ := bounded
  refine ⟨points, ascends, ?_, captures⟩
  unfold countDisorder
  split <;> simp only <;> omega

theorem takePoint_bounded (refRadius y z : Int) {x : ScanSide} (bounded : SideBounded x) :
    SideBounded (takePoint refRadius y z x) := by
  obtain ⟨discarded, passed⟩ := takePoint_rows refRadius y z x
  by_cases passes : pointInRange y z = true ∧ pointInOrder x.points y = true
  · obtain ⟨ranged, ordered⟩ := passes
    obtain ⟨kept, truncated⟩ := passed ranged ordered
    obtain ⟨points, ascends, disorder, captures⟩ := bounded
    by_cases room : x.points.length < 512
    · rw [kept room]
      have length : (x.points ++ [(⟨y, refRadius + z⟩ : Point)]).length ≤ 512 := by
        rw [List.length_append, List.length_singleton]
        exact room
      exact ⟨length, pairwise_append_point ascends ((pointInOrder_iff _ y).mp ordered), disorder, captures⟩
    · rw [truncated (Nat.not_lt.mp room)]
      exact ⟨points, ascends, disorder, captures⟩
  · rw [discarded passes]
    exact countDisorder_bounded bounded

theorem SidesBounded.set {p : Sides ScanSide} {sd : Side} {x : ScanSide} (bounded : SidesBounded p) (side : SideBounded x)
    (captures : x.captures = (p.get sd).captures) : SidesBounded (p.set sd x) := by
  obtain ⟨sides, equal⟩ := bounded
  refine ⟨fun other => ?_, ?_⟩
  · by_cases same : other = sd
    · subst same
      simpa using side
    · simpa [Sides.get_set_other _ same] using sides other
  · cases sd <;> simpa [Sides.set, Sides.get, captures] using equal

/-- An edge appends one capture on each side, where both lists have room (R97). -/
theorem SidesBounded.capture {p : Sides ScanSide} (bounded : SidesBounded p) (l r : RollerCount)
    (roomL : p.l.captures.length < 5) (roomR : p.r.captures.length < 5) :
    SidesBounded ⟨Machine.capture l p.l, Machine.capture r p.r⟩ := by
  obtain ⟨sides, equal⟩ := bounded
  have room : ∀ sd, (p.get sd).captures.length < 5
    | .l => roomL
    | .r => roomR
  have side : ∀ (sd : Side) (n : RollerCount), SideBounded (Machine.capture n (p.get sd)) := by
    intro sd n
    obtain ⟨points, ascends, disorder, -⟩ := sides sd
    refine ⟨points, ascends, disorder, ?_⟩
    rw [Machine.capture, List.length_append, List.length_singleton]
    exact room sd
  refine ⟨fun sd => ?_, by simpa [Machine.capture] using equal⟩
  cases sd with
  | l => exact side .l l
  | r => exact side .r r

theorem setScan_bounded {s : State} {st : Station} {x : Scan} (bounded : ScansBounded s) (sides : SidesBounded x.sides) :
    ScansBounded (setScan st x s) := by
  refine (scansBounded_iff _).mpr fun other => ?_
  by_cases same : other = st
  · subst same
    simpa using sides
  · rw [setScan_scans, PerStation.get_set_other _ same]
    exact bounded other

/-! ## What leaves the sides of every scan as they are

An event outside the Scan Unit may end a scan, but it keeps all that the scan collected (R99, R100). -/

/-- The sides of both scans: all of a scan that its bounds speak of. -/
def sidesOf (x : PerStation Scan) : PerStation (Sides ScanSide) := x.map Scan.sides

theorem ScansBounded.of_sides {s t : State} (same : sidesOf t.scans = sidesOf s.scans) (bounded : ScansBounded s) :
    ScansBounded t := by
  refine (scansBounded_iff t).mpr fun st => ?_
  have side : (t.scans.get st).sides = (s.scans.get st).sides := by
    simpa [sidesOf] using congrArg (PerStation.get · st) same
  rw [side]
  exact bounded st

@[simp] theorem postAll_scans (ns : List NoticeBody) (s : State) : (postAll ns s).scans = s.scans := by rw [postAll_eq]

@[simp] theorem postIf_scans (c : Bool) (n : NoticeBody) (s : State) : (postIf c n s).scans = s.scans := by
  rw [postIf_eq, postAll_scans]

@[simp] theorem changeBound_scans (st : Station) (f : AxleRecord → AxleRecord)
    (changes : AxleRecord → AxleRecord → ChangeSet) (s : State) : (changeBound st f changes s).scans = s.scans := by
  unfold changeBound
  split <;> rfl

@[simp] theorem bindRecord_scans (identity : List Byte) (b : Binding) (s : State) :
    (bindRecord identity b s).scans = s.scans := by
  unfold bindRecord
  split <;> rfl

@[simp] theorem bindPositions_scans (j : Job) (first second : Binding) (s : State) :
    (bindPositions j first second s).scans = s.scans := by
  unfold bindPositions
  split <;> simp

/-! ### Halts and derivations -/

theorem endedScan_sides (s : State) (st : Station) : (endedScan s st).sides = (s.scans.get st).sides := by
  unfold endedScan
  split <;> rfl

@[simp] theorem stopScan_sides (st : Station) (s : State) : sidesOf (stopScan st s).scans = sidesOf s.scans := by
  cases st <;> rfl

@[simp] theorem endScan_sides (st : Station) (cause : EndCause) (s : State) :
    sidesOf (endScan st cause s).scans = sidesOf s.scans := by
  unfold endScan
  split <;> simp

@[simp] theorem halt_sides (cause : HaltCause) (s : State) : sidesOf (halt cause s).scans = sidesOf s.scans := by
  rw [halt_eq, postAll_scans]
  simp only [haltEffect, sidesOf, PerStation.map, endedScan_sides]
  rfl

@[simp] theorem rederive_sides (s : State) : sidesOf (rederive s).scans = sidesOf s.scans := by
  unfold rederive
  split
  · rw [holdPhase_eq, postAll_scans]
  · exact halt_sides .support s

@[simp] theorem raiseCause_sides (cause : HaltCause) (s : State) : sidesOf (raiseCause cause s).scans = sidesOf s.scans := by
  unfold raiseCause
  split
  · rfl
  · exact halt_sides cause s

@[simp] theorem loseStep_scans (st : Station) (cause : SuspendCause) (s : State) :
    (loseStep st cause s).scans = s.scans := by
  rw [loseStep, suspendIfRunning_eq]
  rfl

/-! ### The lift -/

@[simp] theorem postWorkingDone_scans (working : Option Move) (outcome : LiftOutcome) (cause : Option HaltCause) (s : State) :
    (postWorkingDone working outcome cause s).scans = s.scans := by rw [postWorkingDone_eq, postAll_scans]

@[simp] theorem dropStaged_scans (s : State) : (dropStaged s).scans = s.scans := by rw [dropStaged_eq, postAll_scans]

@[simp] theorem endShort_scans (s : State) : (endShort s).scans = s.scans := by rw [endShort_eq, postAll_scans]

@[simp] theorem stopImmediately_scans (s : State) : (stopImmediately s).scans = s.scans := by
  rw [stopImmediately_eq, postAll_scans]

@[simp] theorem stopRamping_scans (s : State) : (stopRamping s).scans = s.scans := by
  unfold stopRamping
  split <;> simp

@[simp] theorem rederiveIfLiftChanged_sides (before : LiftState) (s : State) :
    sidesOf (rederiveIfLiftChanged before s).scans = sidesOf s.scans := by
  unfold rederiveIfLiftChanged
  split
  · rfl
  · exact rederive_sides s

@[simp] theorem faultLift_sides (cause : HaltCause) (named : Jacks Bool) (s : State) :
    sidesOf (faultLift cause named s).scans = sidesOf s.scans := by simp [faultLift]

@[simp] theorem profileTick_sides (s : State) : sidesOf (profileTick s).scans = sidesOf s.scans := by
  unfold profileTick
  split
  · simp only [rederiveIfLiftChanged_sides]
    split <;> simp
  · rfl

@[simp] theorem reachTarget_scans (s : State) : (reachTarget s).scans = s.scans := by
  unfold reachTarget
  simp only []
  split
  · simp
  · split <;> simp

@[simp] theorem takeSample_sides (readings : Jacks Int) (s : State) :
    sidesOf (takeSample readings s).scans = sidesOf s.scans := by
  unfold takeSample handToInterlock
  simp only []
  repeat' split
  all_goals simp

@[simp] theorem expireSettle_sides (s : State) : sidesOf (expireSettle s).scans = sidesOf s.scans := by
  unfold expireSettle
  split
  · exact faultLift_sides ..
  · rfl

theorem serveLiftMove_sides (target : Int) (moveClass : Nat) (s : State) :
    sidesOf (serveLiftMove target moveClass s).1.scans = sidesOf s.scans := by
  unfold serveLiftMove
  repeat' split
  all_goals simp [refuse, answerOk]

/-! ### Clamps, the e-stop chain and ACK_FAULT -/

@[simp] theorem unclamp_sides (st : Station) (s : State) : sidesOf (unclamp st s).scans = sidesOf s.scans := by
  unfold unclamp
  simp only [rederive_sides, setClamp_scans]
  repeat' split
  all_goals simp

@[simp] theorem assertEstop_sides (s : State) : sidesOf (assertEstop s).scans = sidesOf s.scans := by
  unfold assertEstop
  simp only []
  split <;> simp

theorem serveClampRequest_sides (station : Nat) (s : State) :
    sidesOf (serveClampRequest station s).1.scans = sidesOf s.scans := by
  unfold serveClampRequest
  repeat' split
  all_goals simp [refuse, answerOk]

theorem serveUnclampReport_sides (station : Nat) (s : State) :
    sidesOf (serveUnclampReport station s).1.scans = sidesOf s.scans := by
  unfold serveUnclampReport answerOk
  split
  · rfl
  · simp only []
    split <;> simp

theorem serveAckFault_sides (s : State) : sidesOf (serveAckFault s).1.scans = sidesOf s.scans := by
  unfold serveAckFault
  repeat' split
  all_goals simp [refuse, answerOk, acknowledge]

/-! ### The steps and the cut -/

@[simp] theorem issueStep_sides (st : Station) (step : Nat) (s : State) :
    sidesOf (issueStep st step s).scans = sidesOf s.scans := by simp [issueStep]

theorem serveTakePass_sides (station : Nat) (s : State) :
    sidesOf (serveTakePass station s).1.scans = sidesOf s.scans := by
  unfold serveTakePass offerStep
  simp only []
  repeat' split
  all_goals simp [refuse, refuseWith, answerOk]

@[simp] theorem bookRecord_scans (st : Station) (first finish : Bool) (s : State) :
    (bookRecord st first finish s).scans = s.scans := by
  unfold bookRecord
  repeat' split
  all_goals simp

@[simp] theorem bookStep_scans (st : Station) (step : Nat) (s : State) : (bookStep st step s).scans = s.scans := by
  simp only [bookStep, bookMeasurement, setMeasurement_scans, setTools_scans, setStepTimer_scans, setContext_scans]

@[simp] theorem completeCut_scans (s : State) : (completeCut s).scans = s.scans := by
  unfold completeCut
  split <;> rfl

@[simp] theorem completeStep_sides (st : Station) (step : Nat) (s : State) :
    sidesOf (completeStep st step s).scans = sidesOf s.scans := by simp [completeStep]

/-- A report leaves the sides where the event it may carry out does (R169, R175). -/
theorem reportStep_sides (st : Station) (step : Nat) {carried : State × Answer} {s : State}
    (done : sidesOf carried.1.scans = sidesOf s.scans) :
    sidesOf (reportStep st step carried s).1.scans = sidesOf s.scans := by
  unfold reportStep
  split
  · exact done
  · split <;> rfl

theorem servePassDone_sides (station step : Nat) (s : State) :
    sidesOf (servePassDone station step s).1.scans = sidesOf s.scans := by
  unfold servePassDone
  split
  · rfl
  · split
    · rfl
    · exact reportStep_sides _ _ (completeStep_sides ..)

theorem servePassAborted_sides (station step : Nat) (s : State) :
    sidesOf (servePassAborted station step s).1.scans = sidesOf s.scans := by
  unfold servePassAborted
  split
  · rfl
  · split
    · rfl
    · exact reportStep_sides _ _ (by simp [answerOk])

@[simp] theorem expireStep_sides (st : Station) (s : State) : sidesOf (expireStep st s).scans = sidesOf s.scans := by
  unfold expireStep
  split
  · rfl
  · split <;> simp

theorem startCut_scans (s : State) : (startCut s).scans = s.scans := by
  simp only [startCut, postCutState_scans, setCutState_scans, setContext_scans]

theorem serveStartCut_scans (s : State) : (serveStartCut s).1.scans = s.scans := by
  unfold serveStartCut
  repeat' split
  case isFalse => exact startCut_scans s
  all_goals rfl

theorem serveSuspendCut_scans (s : State) : (serveSuspendCut s).1.scans = s.scans := by
  unfold serveSuspendCut
  split <;> rfl

theorem serveResumeCut_scans (s : State) : (serveResumeCut s).1.scans = s.scans := by
  unfold serveResumeCut
  split <;> rfl

@[simp] theorem discardPlanned_scans (s : State) : (discardPlanned s).scans = s.scans := by
  rw [discardPlanned_eq, postAll_scans]
  rfl

@[simp] theorem appendPartialCut_scans (st : Station) (s : State) : (appendPartialCut st s).scans = s.scans := by
  unfold appendPartialCut
  repeat' split
  all_goals simp

theorem serveAbandonCut_scans (s : State) : (serveAbandonCut s).1.scans = s.scans := by
  unfold serveAbandonCut
  repeat' split
  all_goals simp [refuse, answerOk, abandonCut]

theorem serveToolChanged_scans (station side life : Nat) (s : State) :
    (serveToolChanged station side life s).1.scans = s.scans := by
  unfold serveToolChanged
  repeat' split
  all_goals rfl

/-! ### Records, jobs, templates, settings and plans -/

theorem serveLoadAxle_scans (i : AxleImage) (s : State) : (serveLoadAxle i s).1.scans = s.scans := by
  unfold serveLoadAxle
  repeat' split
  all_goals rfl

theorem serveReadAxle_scans (identity : List Byte) (s : State) : (serveReadAxle identity s).1.scans = s.scans := by
  unfold serveReadAxle
  repeat' split
  all_goals rfl

theorem serveUnloadAxle_scans (identity : List Byte) (s : State) : (serveUnloadAxle identity s).1.scans = s.scans := by
  unfold serveUnloadAxle
  repeat' split
  all_goals rfl

theorem serveListAxles_scans (start : Nat) (s : State) : (serveListAxles start s).1.scans = s.scans := by
  unfold serveListAxles
  split <;> rfl

@[simp] theorem openJob_sides (j : Job) (s : State) : sidesOf (openJob j s).scans = sidesOf s.scans := by simp [openJob]

theorem setSingleJob_sides (f : JobFields) (first : Folded) (s : State) :
    sidesOf (setSingleJob f first s).1.scans = sidesOf s.scans := by
  unfold setSingleJob
  repeat' split
  case isFalse => exact openJob_sides (openedJob f first none) s
  all_goals rfl

theorem setTandemJob_sides (f : JobFields) (first second : Folded) (s : State) :
    sidesOf (setTandemJob f first second s).1.scans = sidesOf s.scans := by
  unfold setTandemJob
  repeat' split
  case isFalse => exact openJob_sides (openedJob f first (some second)) s
  all_goals rfl

theorem serveSetJob_sides (f : JobFields) (s : State) : sidesOf (serveSetJob f s).1.scans = sidesOf s.scans := by
  unfold serveSetJob
  repeat' split
  · rfl
  · rfl
  · rfl
  · exact setSingleJob_sides ..
  · rfl
  · rfl
  · exact setTandemJob_sides ..

@[simp] theorem closeCut_scans (s : State) : (closeCut s).scans = s.scans := by
  unfold closeCut
  split <;> rfl

theorem serveCloseJob_sides (s : State) : sidesOf (serveCloseJob s).1.scans = sidesOf s.scans := by
  unfold serveCloseJob
  repeat' split
  all_goals simp [refuse, answerOk, Machine.closeJob]

theorem serveLoadTemplate_scans (index : Nat) (t : TemplateFields) (s : State) :
    (serveLoadTemplate index t s).1.scans = s.scans := by
  unfold serveLoadTemplate
  repeat' split
  all_goals rfl

theorem serveReadTemplate_scans (index : Nat) (s : State) : (serveReadTemplate index s).1.scans = s.scans := by
  unfold serveReadTemplate
  split <;> rfl

theorem serveLoadDisposition_scans (d : DispositionFields) (s : State) :
    (serveLoadDisposition d s).1.scans = s.scans := by
  unfold serveLoadDisposition
  repeat' split
  all_goals rfl

@[simp] theorem takeConfiguration_sides (c : Configuration) (s : State) :
    sidesOf (takeConfiguration c s).scans = sidesOf s.scans := by
  have stored : (setConfiguration c s).scans = s.scans := by unfold setConfiguration; split <;> rfl
  unfold takeConfiguration
  simp only []
  split <;> simp [stored]

theorem serveSetConfig_sides (item index : Nat) (value : Int) (s : State) :
    sidesOf (serveSetConfig item index value s).1.scans = sidesOf s.scans := by
  unfold serveSetConfig
  repeat' split
  all_goals simp [refuse]

theorem serveReadMeasure_scans (position : Nat) (s : State) : (serveReadMeasure position s).1.scans = s.scans := by
  unfold serveReadMeasure
  split <;> rfl

@[simp] theorem placePlan_scans (p : Plan) (s : State) : (placePlan p s).scans = s.scans := by
  unfold placePlan
  simp only []
  split <;> rfl

@[simp] theorem appendExcluded_scans (p : Plan) (j : Job) (st : Station) (s : State) :
    (appendExcluded p j st s).scans = s.scans := by
  unfold appendExcluded
  split <;> simp

theorem servePlan_scans (s : State) : (servePlan s).1.scans = s.scans := by
  have admitted : ∀ j, (admitPlan j s).scans = s.scans := by
    intro j
    simp only [admitPlan, appendExcluded_scans]
    split <;> simp
  unfold servePlan
  repeat' split
  case h_2 => exact admitted _
  all_goals rfl

theorem serveReadPlan_scans (s : State) : (serveReadPlan s).1.scans = s.scans := by
  unfold serveReadPlan
  split <;> rfl

/-! ### The end of a scan -/

@[simp] theorem handOn_scans (st : Station) (m : Measurement) (s : State) : (handOn st m s).scans = s.scans := by
  unfold handOn appendVerification appendMeasure
  repeat' split
  all_goals simp

@[simp] theorem finishScan_sides (st : Station) (s : State) : sidesOf (finishScan st s).scans = sidesOf s.scans := by
  simp [finishScan]

@[simp] theorem completeIfDue_sides (st : Station) (s : State) : sidesOf (completeIfDue st s).scans = sidesOf s.scans := by
  unfold completeIfDue
  split <;> simp

@[simp] theorem expireScan_sides (st : Station) (s : State) : sidesOf (expireScan st s).scans = sidesOf s.scans := by
  unfold expireScan
  split <;> simp

/-! ## The Scan Unit keeps the bounds -/

theorem setScanSide_bounded {s : State} {c : Channel} {x : ScanSide} (bounded : ScansBounded s) (side : SideBounded x)
    (captures : x.captures = (scanSide s c).captures) : ScansBounded (setScanSide c x s) :=
  setScan_bounded bounded (SidesBounded.set (bounded c.station) side captures)

theorem gaugePointTaken_bounded (c : Channel) (y z : Int) {s : State} (bounded : ScansBounded s) :
    ScansBounded (gaugePointTaken c y z s) := by
  unfold gaugePointTaken
  split
  · exact setScanSide_bounded bounded (takePoint_bounded _ y z ((bounded c.station).1 c.side)) (takePoint_captures ..)
  · exact bounded

theorem endMarkerTaken_bounded (c : Channel) {s : State} (bounded : ScansBounded s) :
    ScansBounded (endMarkerTaken c s) := by
  unfold endMarkerTaken
  split
  · exact .of_sides (completeIfDue_sides ..) (setScanSide_bounded bounded ((bounded c.station).1 c.side) rfl)
  · exact bounded

theorem indexEdgeTaken_bounded (st : Station) {s : State} (bounded : ScansBounded s) :
    ScansBounded (indexEdgeTaken st s) := by
  unfold indexEdgeTaken
  split
  case isTrue taken =>
    obtain ⟨-, open_⟩ := (Bool.and_eq_true _ _).mp taken
    obtain ⟨roomL, roomR⟩ := (capturesOpen_iff _).mp open_
    exact .of_sides (completeIfDue_sides ..)
      (setScan_bounded bounded (SidesBounded.capture (bounded st) _ _ roomL roomR))
  case isFalse => exact bounded

theorem rollerCountTaken_scans (c : Channel) (s : State) : (rollerCountTaken c s).scans = s.scans := by
  unfold rollerCountTaken
  split <;> rfl

/-- A started scan is empty (R91). -/
theorem startedScan_bounded (scanTime : Int) : SidesBounded (startedScan scanTime).sides :=
  ⟨fun sd => by cases sd <;> simp [SideBounded, startedScan, Sides.get, ScanSide.reset], rfl⟩

theorem serveStartMeasure_bounded (station : Nat) {s : State} (bounded : ScansBounded s) :
    ScansBounded (serveStartMeasure station s).1 := by
  have started : ∀ st, ScansBounded (startScan st s) := fun st =>
    .of_sides (s := setScan st (startedScan (discardPlanned s).config.scanTime) (discardPlanned s)) rfl
      (setScan_bounded (.of_sides (by simp) bounded) (startedScan_bounded _))
  unfold serveStartMeasure
  repeat' split
  case isFalse => exact started _
  all_goals exact bounded

/-! ## Every step keeps the bounds -/

/-- Of all requests only a START_MEASURE changes what a scan holds. -/
theorem serveOwner_sides (port : PortId) (r : Request) (s : State) (other : ∀ station, r ≠ .startMeasure station) :
    sidesOf (serveOwner port r s).1.scans = sidesOf s.scans := by
  cases r with
  | loadAxle image => exact congrArg sidesOf (serveLoadAxle_scans ..)
  | readAxle identity => exact congrArg sidesOf (serveReadAxle_scans ..)
  | unloadAxle identity => exact congrArg sidesOf (serveUnloadAxle_scans ..)
  | listAxles start => exact congrArg sidesOf (serveListAxles_scans ..)
  | setJob fields => exact serveSetJob_sides ..
  | closeJob => exact serveCloseJob_sides ..
  | loadTemplate index fields => exact congrArg sidesOf (serveLoadTemplate_scans ..)
  | readTemplate index => exact congrArg sidesOf (serveReadTemplate_scans ..)
  | loadDisposition fields => exact congrArg sidesOf (serveLoadDisposition_scans ..)
  | setConfig item index value => exact serveSetConfig_sides ..
  | clampRequest station => exact serveClampRequest_sides ..
  | unclampReport station => exact serveUnclampReport_sides ..
  | ackFault => exact serveAckFault_sides ..
  | liftMove target moveClass => exact serveLiftMove_sides ..
  | liftStopDecel => simp [serveOwner, serveLiftStopDecel, answerOk]
  | liftStopImmediate => simp [serveOwner, serveLiftStopImmediate, answerOk]
  | startMeasure station => exact absurd rfl (other station)
  | readMeasure position => exact congrArg sidesOf (serveReadMeasure_scans ..)
  | plan => exact congrArg sidesOf (servePlan_scans ..)
  | readPlan => exact congrArg sidesOf (serveReadPlan_scans ..)
  | startCut => exact congrArg sidesOf (serveStartCut_scans ..)
  | suspendCut => exact congrArg sidesOf (serveSuspendCut_scans ..)
  | resumeCut => exact congrArg sidesOf (serveResumeCut_scans ..)
  | abandonCut => exact congrArg sidesOf (serveAbandonCut_scans ..)
  | takePass station => exact serveTakePass_sides ..
  | passDone station step => exact servePassDone_sides ..
  | passAborted station step => exact servePassAborted_sides ..
  | toolChanged station side life => exact congrArg sidesOf (serveToolChanged_scans ..)
  | readStatus | readDisposition | readConfig | unknownCode code | badPayload code => rfl

theorem serveOwner_bounded (port : PortId) (r : Request) {s : State} (bounded : ScansBounded s) :
    ScansBounded (serveOwner port r s).1 := by
  by_cases start : ∃ station, r = .startMeasure station
  · obtain ⟨station, rfl⟩ := start
    exact serveStartMeasure_bounded station bounded
  · exact .of_sides (serveOwner_sides port r s (not_exists.mp start)) bounded

theorem takeRequest_bounded (port : PortId) (w : Waiting) {s : State} (bounded : ScansBounded s) :
    ScansBounded (takeRequest port w s) := by
  have served : ScansBounded (serveRequest port w.request s).1 := by
    unfold serveRequest
    split
    · exact bounded
    · split
      · exact serveOwner_bounded port _ bounded
      · exact bounded
  exact served

theorem offerRequest_bounded (port : PortId) (w : Waiting) {s : State} (bounded : ScansBounded s) :
    ScansBounded (offerRequest port w s) := by
  unfold offerRequest
  simp only []
  repeat' split
  · exact bounded
  · exact bounded
  · exact takeRequest_bounded port w bounded

theorem completeFrame_bounded (port : PortId) (frameType code tag : Byte) (payload : List Byte) {s : State}
    (bounded : ScansBounded s) : ScansBounded (completeFrame port frameType code tag payload s) := by
  have whole : ∀ t, t.scans = s.scans → ScansBounded (takeWhole port frameType code tag payload t) := by
    intro t same
    have kept : ScansBounded t := .of_sides (congrArg sidesOf same) bounded
    unfold takeWhole
    simp only []
    repeat' split
    · exact kept
    · exact kept
    · exact offerRequest_bounded port _ kept
  unfold completeFrame
  simp only []
  repeat' split
  · exact bounded
  · exact whole _ rfl
  · exact offerRequest_bounded port _ bounded
  · exact whole _ rfl

theorem receiveByte_bounded (port : PortId) (b : Byte) {s : State} (bounded : ScansBounded s) :
    ScansBounded (receiveByte port b s) := by
  unfold receiveByte judgeFrame
  simp only []
  repeat' split
  case h_2.isFalse.isFalse.isTrue => exact completeFrame_bounded port _ _ _ _ bounded
  all_goals exact bounded

theorem receiveBytes_bounded (port : PortId) (bytes : List Byte) {s : State} (bounded : ScansBounded s) :
    ScansBounded (receiveBytes port bytes s) := by
  induction bytes generalizing s with
  | nil => exact bounded
  | cons b bytes ih => exact ih (receiveByte_bounded port b bounded)

theorem receiveCharacter_bounded (port : PortId) (b : Byte) (stopBit : Bool) {s : State} (bounded : ScansBounded s) :
    ScansBounded (receiveCharacter port b stopBit s) := by
  unfold receiveCharacter receiveBroken
  simp only []
  split
  · exact receiveByte_bounded port b bounded
  · split <;> exact bounded

theorem expireByteGap_scans (port : PortId) (s : State) : (expireByteGap port s).scans = s.scans := by
  unfold expireByteGap
  simp only []
  repeat' split
  all_goals rfl

theorem endTransmission_bounded (port : PortId) {s : State} (bounded : ScansBounded s) :
    ScansBounded (endTransmission port s) := by
  unfold endTransmission sendSecond endReply
  simp only []
  split
  · exact bounded
  · exact bounded
  · split <;> exact bounded
  · split
    · exact bounded
    · exact takeRequest_bounded port _ bounded

theorem takeEvent_bounded {f : State → State} {s t : State} (event : ScansBounded s → ScansBounded (f s))
    (bounded : ScansBounded s) (taken : takeEvent f s = .next t) : ScansBounded t := by
  unfold takeEvent at taken
  split at taken <;> cases taken
  · exact bounded
  · exact event bounded

/-- At its reset values the part has empty scans (R88). -/
theorem released_bounded {s : State} (empty : s.scans = State.reset.scans) : ScansBounded s := by
  obtain ⟨-, -, -, -, -, -, -, -, -, -, -, -, bounded⟩ := invariantsAtReset
  exact .of_sides (congrArg sidesOf empty) bounded

theorem releaseReset_bounded (pins : ReleasePins) (s : State) : ScansBounded (releaseReset pins s) := by
  unfold releaseReset
  simp only []
  split
  · exact .of_sides (assertEstop_sides _) (released_bounded rfl)
  · exact released_bounded rfl

theorem exec_bounded {c : Instr} {s t : State} (bounded : ScansBounded s) (run : exec c s = .next t) :
    ScansBounded t := by
  cases request : requestOf c with
  | some pw =>
    rw [exec_request request] at run
    exact takeEvent_bounded (offerRequest_bounded _ _) bounded run
  | none =>
    cases c with
    | estopAssertion => exact takeEvent_bounded (.of_sides (assertEstop_sides s)) bounded run
    | estopRelease => exact takeEvent_bounded id bounded run
    | jackSample readings => exact takeEvent_bounded (.of_sides (takeSample_sides readings s)) bounded run
    | profileUpdate => exact takeEvent_bounded (.of_sides (profileTick_sides s)) bounded run
    | settleTimerExpiry => exact takeEvent_bounded (.of_sides (expireSettle_sides s)) bounded run
    | gaugePoint channel y z => exact takeEvent_bounded (gaugePointTaken_bounded channel y z) bounded run
    | endMarker channel => exact takeEvent_bounded (endMarkerTaken_bounded channel) bounded run
    | wheelIndexEdge station => exact takeEvent_bounded (indexEdgeTaken_bounded station) bounded run
    | rollerCount channel =>
      exact takeEvent_bounded (.of_sides (congrArg sidesOf (rollerCountTaken_scans channel s))) bounded run
    | scanTimerExpiry station => exact takeEvent_bounded (.of_sides (expireScan_sides station s)) bounded run
    | stepTimerExpiry station => exact takeEvent_bounded (.of_sides (expireStep_sides station s)) bounded run
    | frameReceived port bytes => exact takeEvent_bounded (receiveBytes_bounded port bytes) bounded run
    | characterReceived port byte stopBit =>
      exact takeEvent_bounded (receiveCharacter_bounded port byte stopBit) bounded run
    | byteGapTimerExpiry port =>
      exact takeEvent_bounded (.of_sides (congrArg sidesOf (expireByteGap_scans port s))) bounded run
    | transmitEnd port => exact takeEvent_bounded (endTransmission_bounded port) bounded run
    | reset =>
      cases run
      exact released_bounded rfl
    | resetRelease pins =>
      cases run
      exact releaseReset_bounded pins s
    | _ => cases request

/-- A millisecond counts the scan timers alone (R99, log 3). -/
theorem tick_sides (s : State) : sidesOf (tick s).scans = sidesOf s.scans := by
  unfold tick
  split <;> rfl

/-- Settles O60: a command keeps the bounds (`exec_bounded`), and so does a millisecond (`tick_sides`). -/
theorem scansBoundedKept : Obligations.ScansBoundedKept := by
  intro s t bounded run
  unfold step at run
  split at run
  · cases run
    exact .of_sides (tick_sides s) bounded
  case h_2 c rest _ => exact exec_bounded (s := { s with pending := rest }) bounded run

end Sys2Proof.Machine
end

section
/-! PROOFS. The statement about the Measurement Unit: the taping radius, the crossing search, the flange tip, the checks of a
wheel in their order, and the state that the two wheels decide. -/

namespace Sys2Proof.Machine

/-! ## What the searches look for -/

/-- The points ascend in y, as the order test of R94 keeps them. -/
abbrev Ascending (pts : List Point) : Prop := pts.Pairwise fun a b => a.y < b.y

/-- The pair at a place of the list falls from at or above a level to below it (R111). -/
def FallsAt (level : Int) (pts : List Point) (k : Nat) : Prop :=
  ∃ a b, pts[k]? = some a ∧ pts[k + 1]? = some b ∧ level ≤ a.r ∧ b.r < level

/-- A point replaces the best one so far where it lies before the taping line and is higher (R110). -/
def Betters (yTap : Int) (best : Option (Nat × Point)) (p : Point) : Prop :=
  p.y < yTap ∧ ∀ q, best = some q → q.2.r < p.r

/-! ## The taping line (R108, R109) -/

theorem tapingRadius_cons_at {yTap : Int} {a : Point} (rest : List Point) (onLine : a.y = yTap) :
    tapingRadius yTap (a :: rest) = some a.r := by
  cases rest with
  | nil => exact if_pos onLine
  | cons b rest => exact if_pos onLine

theorem tapingRadius_cons_between {yTap : Int} {a b : Point} (rest : List Point) (below : a.y < yTap)
    (above : yTap < b.y) : tapingRadius yTap (a :: b :: rest) = some (lineValue a.y a.r b.y b.r yTap) :=
  (if_neg (Int.ne_of_lt below)).trans (if_pos ⟨below, above⟩)

/-- A point before the taping line is passed over where the next point does not lie beyond the line. -/
theorem tapingRadius_cons_before {yTap : Int} {a b : Point} (rest : List Point) (below : a.y < yTap)
    (notBeyond : b.y ≤ yTap) : tapingRadius yTap (a :: b :: rest) = tapingRadius yTap (b :: rest) :=
  (if_neg (Int.ne_of_lt below)).trans (if_neg fun between => Int.not_lt.mpr notBeyond between.2)

theorem tapingRadius_of_mem {yTap : Int} {pts : List Point} {p : Point} (ascending : Ascending pts) (mem : p ∈ pts)
    (onLine : p.y = yTap) : tapingRadius yTap pts = some p.r := by
  induction pts with
  | nil => cases mem
  | cons a rest ih =>
    obtain ⟨first, tailAscending⟩ := List.pairwise_cons.mp ascending
    rcases List.mem_cons.mp mem with rfl | later
    · exact tapingRadius_cons_at rest onLine
    · have found := ih tailAscending later
      cases rest with
      | nil => cases later
      | cons b rest =>
        have next : b.y ≤ yTap := by
          rcases List.mem_cons.mp later with rfl | beyond
          · exact Int.le_of_eq onLine
          · exact onLine ▸ Int.le_of_lt (List.rel_of_pairwise_cons tailAscending beyond)
        exact (tapingRadius_cons_before rest (onLine ▸ first p later) next).trans found

theorem tapingRadius_between {yTap : Int} {pre post : List Point} {a b : Point}
    (ascending : Ascending (pre ++ a :: b :: post)) (below : a.y < yTap) (above : yTap < b.y) :
    tapingRadius yTap (pre ++ a :: b :: post) = some (lineValue a.y a.r b.y b.r yTap) := by
  induction pre with
  | nil => exact tapingRadius_cons_between post below above
  | cons x pre ih =>
    obtain ⟨first, tailAscending⟩ := List.pairwise_cons.mp ascending
    have found := ih tailAscending
    have xBelow : x.y < yTap := Int.lt_trans (first a (by simp)) below
    cases pre with
    | nil => exact (tapingRadius_cons_before _ xBelow (Int.le_of_lt below)).trans found
    | cons z pre =>
      have zBelow : z.y < yTap := Int.lt_trans (List.rel_of_pairwise_cons tailAscending (a' := a) (by simp)) below
      exact (tapingRadius_cons_before _ xBelow (Int.le_of_lt zBelow)).trans found

/-- A taping radius rests on a kept point at or before the taping line and one at or beyond it. -/
theorem tapingRadius_brackets {yTap rTap : Int} {pts : List Point} (taped : tapingRadius yTap pts = some rTap) :
    (∃ a ∈ pts, a.y ≤ yTap) ∧ ∃ b ∈ pts, yTap ≤ b.y := by
  fun_induction tapingRadius yTap pts with
  | case1 => cases taped
  | case2 a onLine => exact ⟨⟨a, by simp, Int.le_of_eq onLine⟩, a, by simp, Int.le_of_eq onLine.symm⟩
  | case3 => cases taped
  | case4 a b rest onLine => exact ⟨⟨a, by simp, Int.le_of_eq onLine⟩, a, by simp, Int.le_of_eq onLine.symm⟩
  | case5 a b rest _ between => exact ⟨⟨a, by simp, Int.le_of_lt between.1⟩, b, by simp, Int.le_of_lt between.2⟩
  | case6 a b rest _ _ ih =>
    obtain ⟨⟨p, memP, before⟩, q, memQ, beyond⟩ := ih taped
    exact ⟨⟨p, List.mem_cons_of_mem a memP, before⟩, q, List.mem_cons_of_mem a memQ, beyond⟩

theorem rangePasses_iff {yTap : Int} {pts : List Point} :
    rangePasses yTap pts = true
      ↔ ∃ a b, pts.head? = some a ∧ pts.getLast? = some b ∧ a.y ≤ yTap ∧ yTap ≤ b.y := by
  unfold rangePasses
  cases pts.head? with
  | none => simp
  | some a =>
    cases pts.getLast? with
    | none => simp
    | some b => simp

/-- The range check fails where the first point lies beyond the taping line, the last one before it, or no point is kept. -/
theorem rangePasses_eq_false {yTap : Int} {pts : List Point}
    (misses : pts.head?.all (fun p => yTap < p.y) = true ∨ pts.getLast?.all (fun p => p.y < yTap) = true) :
    rangePasses yTap pts = false := by
  refine Bool.eq_false_iff.mpr fun passes => ?_
  obtain ⟨a, b, first, last, before, beyond⟩ := Iff.mp rangePasses_iff passes
  simp only [first, last, Option.all_some, decide_eq_true_eq] at misses
  omega

theorem head?_y_le {pts : List Point} {first p : Point} (ascending : Ascending pts) (head : pts.head? = some first)
    (mem : p ∈ pts) : first.y ≤ p.y := by
  cases pts with
  | nil => cases mem
  | cons x rest =>
    cases head
    rcases List.mem_cons.mp mem with rfl | later
    · exact Int.le_refl _
    · exact Int.le_of_lt (List.rel_of_pairwise_cons ascending later)

theorem y_le_getLast? {pts : List Point} {last p : Point} (ascending : Ascending pts) (ends : pts.getLast? = some last)
    (mem : p ∈ pts) : p.y ≤ last.y := by
  obtain ⟨before, rfl⟩ := List.getLast?_eq_some_iff.mp ends
  obtain ⟨_, _, below⟩ := List.pairwise_append.mp ascending
  rcases List.mem_append.mp mem with earlier | ending
  · exact Int.le_of_lt (below p earlier last (List.mem_singleton.mpr rfl))
  · cases List.mem_singleton.mp ending
    exact Int.le_refl _

theorem rangePasses_of_brackets {yTap : Int} {pts : List Point} (ascending : Ascending pts)
    (before : ∃ a ∈ pts, a.y ≤ yTap) (beyond : ∃ b ∈ pts, yTap ≤ b.y) : rangePasses yTap pts = true := by
  obtain ⟨a, memA, before⟩ := before
  obtain ⟨b, memB, beyond⟩ := beyond
  have head := List.head?_eq_some_head (List.ne_nil_of_mem memA)
  have last := List.getLast?_eq_some_getLast (List.ne_nil_of_mem memA)
  exact Iff.mpr rangePasses_iff ⟨_, _, head, last, Int.le_trans (head?_y_le ascending head memA) before,
    Int.le_trans beyond (y_le_getLast? ascending last memB)⟩

/-! ## The crossing search (R111) -/

theorem fallsAt_zero {level : Int} {a b : Point} {rest : List Point} :
    FallsAt level (a :: b :: rest) 0 ↔ level ≤ a.r ∧ b.r < level :=
  ⟨fun ⟨_, _, here, next, falls⟩ => by cases here; cases next; exact falls, fun falls => ⟨a, b, rfl, rfl, falls⟩⟩

theorem fallsAt_succ {level : Int} {a : Point} {rest : List Point} {k : Nat} :
    FallsAt level (a :: rest) (k + 1) ↔ FallsAt level rest k := Iff.rfl

theorem crossing_cons_fall {level : Int} {a b : Point} (rest : List Point) (falls : level ≤ a.r ∧ b.r < level) :
    crossing level (a :: b :: rest)
      = some (roundDiv (a.y * (a.r - b.r) + (b.y - a.y) * (a.r - level)) (a.r - b.r)) :=
  if_pos falls

theorem crossing_cons_of_not_fallsAt {level : Int} {a : Point} {rest : List Point}
    (stays : ¬ FallsAt level (a :: rest) 0) : crossing level (a :: rest) = crossing level rest := by
  cases rest with
  | nil => rfl
  | cons b rest => exact if_neg (mt (Iff.mpr fallsAt_zero) stays)

theorem crossing_first_fall {level : Int} {pts : List Point} {k : Nat} {a b : Point} (here : pts[k]? = some a)
    (next : pts[k + 1]? = some b) (falls : level ≤ a.r ∧ b.r < level)
    (first : ∀ earlier, earlier < k → ¬ FallsAt level pts earlier) :
    crossing level pts = some (roundDiv (a.y * (a.r - b.r) + (b.y - a.y) * (a.r - level)) (a.r - b.r)) := by
  induction pts generalizing k with
  | nil => cases here
  | cons x rest ih =>
    cases k with
    | zero =>
      cases here
      cases rest with
      | nil => cases next
      | cons y rest =>
        cases next
        exact crossing_cons_fall rest falls
    | succ k =>
      have skips := crossing_cons_of_not_fallsAt (first 0 k.succ_pos)
      exact skips.trans <| ih here next fun earlier lt =>
        mt (Iff.mpr fallsAt_succ) (first (earlier + 1) (Nat.succ_lt_succ lt))

theorem crossing_eq_none {level : Int} {pts : List Point} (stays : ∀ k, ¬ FallsAt level pts k) :
    crossing level pts = none := by
  induction pts with
  | nil => rfl
  | cons a rest ih =>
    have skips := crossing_cons_of_not_fallsAt (stays 0)
    exact skips.trans <| ih fun k => mt (Iff.mpr fallsAt_succ) (stays (k + 1))

/-! ## The flange tip (R110) -/

theorem flangePeak_cons_betters {yTap : Int} {best : Option (Nat × Point)} {p : Point} (i : Nat) (rest : List Point)
    (betters : Betters yTap best p) :
    flangePeak yTap i best (p :: rest) = flangePeak yTap (i + 1) (some (i, p)) rest := by
  obtain ⟨before, higher⟩ := betters
  refine congrArg (flangePeak yTap (i + 1) · rest) (if_pos ?_)
  cases best with
  | none => simpa using before
  | some q => simpa using ⟨before, higher q rfl⟩

theorem flangePeak_cons_of_not_betters {yTap : Int} {best : Option (Nat × Point)} {p : Point} (i : Nat)
    (rest : List Point) (stays : ¬ Betters yTap best p) :
    flangePeak yTap i best (p :: rest) = flangePeak yTap (i + 1) best rest := by
  refine congrArg (flangePeak yTap (i + 1) · rest) (if_neg fun taken => stays ?_)
  cases best with
  | none => exact ⟨by simpa using taken, nofun⟩
  | some q =>
    obtain ⟨before, higher⟩ : p.y < yTap ∧ q.2.r < p.r := by simpa using taken
    exact ⟨before, fun _ best => by cases best; exact higher⟩

theorem flangePeak_keeps_best {yTap : Int} {best : Option (Nat × Point)} {pts : List Point} (i : Nat)
    (stays : ∀ p ∈ pts, ¬ Betters yTap best p) : flangePeak yTap i best pts = best := by
  induction pts generalizing i with
  | nil => rfl
  | cons p rest ih =>
    obtain ⟨here, later⟩ := List.forall_mem_cons.mp stays
    exact (flangePeak_cons_of_not_betters i rest here).trans (ih (i + 1) later)

/-- The search finds the first of the highest points before the taping line, if it is higher than the best so far. -/
theorem flangePeak_first_highest {yTap : Int} {best : Option (Nat × Point)} {pts : List Point} {k : Nat} {tip : Point}
    (i : Nat) (here : pts[k]? = some tip) (before : tip.y < yTap) (highest : ∀ p ∈ pts, p.y < yTap → p.r ≤ tip.r)
    (first : ∀ earlier p, earlier < k → pts[earlier]? = some p → p.r < tip.r)
    (overBest : ∀ q, best = some q → q.2.r < tip.r) : flangePeak yTap i best pts = some (i + k, tip) := by
  induction pts generalizing i k best with
  | nil => cases here
  | cons p rest ih =>
    obtain ⟨_, highestLater⟩ := List.forall_mem_cons.mp highest
    cases k with
    | zero =>
      cases here
      have found := flangePeak_cons_betters i rest ⟨before, overBest⟩
      exact found.trans <| flangePeak_keeps_best (i + 1) fun q mem ⟨qBefore, higher⟩ =>
        Int.not_lt.mpr (highestLater q mem qBefore) (higher _ rfl)
    | succ k =>
      have lower : p.r < tip.r := first 0 p k.succ_pos rfl
      have firstLater : ∀ earlier q, earlier < k → rest[earlier]? = some q → q.r < tip.r :=
        fun earlier q lt found => first (earlier + 1) q (Nat.succ_lt_succ lt) found
      have place : i + (k + 1) = i + 1 + k := by omega
      rw [place]
      by_cases betters : Betters yTap best p
      · exact (flangePeak_cons_betters i rest betters).trans <|
          ih (i + 1) here highestLater firstLater fun q best => by cases best; exact lower
      · exact (flangePeak_cons_of_not_betters i rest betters).trans <|
          ih (i + 1) here highestLater firstLater overBest

/-! ## The checks of a wheel in their order (R107 to R114) -/

theorem computeWheel_disorder (i : WheelInputs) {sd : ScanSide} (exceeds : 8 < sd.disorder) :
    computeWheel i sd = { handedWheel sd with outcome := .disorder } := if_pos exceeds

theorem computeWheel_range {i : WheelInputs} {sd : ScanSide} (ordered : sd.disorder ≤ 8)
    (misses : rangePasses i.yTap sd.points = false) : computeWheel i sd = { handedWheel sd with outcome := .range } :=
  (if_neg (Nat.not_lt.mpr ordered)).trans (if_pos (congrArg not misses))

theorem computeWheel_taped {i : WheelInputs} {sd : ScanSide} {rTap : Int} (ascending : Ascending sd.points)
    (ordered : sd.disorder ≤ 8) (taped : tapingRadius i.yTap sd.points = some rTap) :
    computeWheel i sd = tipWheel i sd rTap { handedWheel sd with rTap := some rTap } := by
  obtain ⟨before, beyond⟩ := tapingRadius_brackets taped
  have passes := rangePasses_of_brackets ascending before beyond
  refine (if_neg (Nat.not_lt.mpr ordered)).trans ((if_neg (by rw [passes]; decide)).trans ?_)
  rw [taped]

/-- A wheel without a point before the taping line has no tip; the tip of any other is the point that the search finds. -/
theorem tipWheel_rows (i : WheelInputs) (sd : ScanSide) (rTap : Int) (w : Wheel) :
    (flangePeak i.yTap 0 none sd.points = none → tipWheel i sd rTap w = { w with outcome := .noFlange })
    ∧ ∀ k p, flangePeak i.yTap 0 none sd.points = some (k, p) →
      let tip : Tip := ⟨k, p.y, p.r, p.r - rTap⟩
      tipWheel i sd rTap w = faceWheel i sd rTap tip { w with tip := some tip } := by
  unfold tipWheel
  refine ⟨fun tipless => ?_, fun k p found => ?_⟩
  · rw [tipless]
  · rw [found]

/-- Outward of the tip the face is looked for first, then the point below the tip (R112, R113). -/
theorem faceWheel_rows (i : WheelInputs) (sd : ScanSide) (rTap : Int) (tip : Tip) (w : Wheel) :
    let outward := sd.points.drop tip.index
    (crossing (rTap + i.hRef) outward = none → faceWheel i sd rTap tip w = { w with outcome := .noFace })
    ∧ ∀ face, crossing (rTap + i.hRef) outward = some face →
      (crossing (tip.r - i.qrOffset) outward = none →
        faceWheel i sd rTap tip w = { w with ft := some face, outcome := .noFace })
      ∧ ∀ tip2, crossing (tip.r - i.qrOffset) outward = some tip2 →
        faceWheel i sd rTap tip w
          = agreeWheel i sd rTap { w with ft := some face, slope := some ⟨tip2, face - tip2⟩ } := by
  unfold faceWheel
  refine ⟨fun noFace => ?_, fun face faced => ⟨fun noSlope => ?_, fun tip2 sloped => ?_⟩⟩
  · simp only [noFace]
  · simp only [faced, noSlope]
  · simp only [faced, sloped]

/-- The roller diameter of R114 as the statement writes it, with four times the counts. -/
theorem rollerDiameter_eq (rollerDia counts : Int) (span : Nat) :
    rollerDiameter rollerDia counts span
      = minInt 4294967295 ((2 * (rollerDia * span) + 4 * counts) / (2 * (4 * counts))) := by
  rw [rollerDiameter, roundDiv, Int.mul_comm counts 4]

/-! ## Every completed wheel has an outcome (R107) -/

theorem agreeWheel_outcome_ne_none (i : WheelInputs) (sd : ScanSide) (rTap : Int) (w : Wheel) :
    (agreeWheel i sd rTap w).outcome ≠ .none := by
  unfold agreeWheel
  dsimp only
  split <;> decide

theorem faceWheel_outcome_ne_none (i : WheelInputs) (sd : ScanSide) (rTap : Int) (tip : Tip) (w : Wheel) :
    (faceWheel i sd rTap tip w).outcome ≠ .none := by
  obtain ⟨noFaceRow, faceRow⟩ := faceWheel_rows i sd rTap tip w
  cases faced : crossing (rTap + i.hRef) (sd.points.drop tip.index) with
  | none => simp [noFaceRow faced]
  | some face =>
    obtain ⟨noSlopeRow, slopeRow⟩ := faceRow face faced
    cases sloped : crossing (tip.r - i.qrOffset) (sd.points.drop tip.index) with
    | none => simp [noSlopeRow sloped]
    | some tip2 =>
      rw [slopeRow tip2 sloped]
      exact agreeWheel_outcome_ne_none i sd rTap _

theorem tipWheel_outcome_ne_none (i : WheelInputs) (sd : ScanSide) (rTap : Int) (w : Wheel) :
    (tipWheel i sd rTap w).outcome ≠ .none := by
  obtain ⟨noFlangeRow, tipRow⟩ := tipWheel_rows i sd rTap w
  cases found : flangePeak i.yTap 0 none sd.points with
  | none => simp [noFlangeRow found]
  | some peak =>
    rw [tipRow peak.1 peak.2 found]
    exact faceWheel_outcome_ne_none i sd rTap _ _

theorem computeWheel_outcome_ne_none (i : WheelInputs) (sd : ScanSide) : (computeWheel i sd).outcome ≠ .none := by
  unfold computeWheel
  dsimp only
  split
  · simp
  split
  · simp
  split
  · simp
  · exact tipWheel_outcome_ne_none i sd _ _

/-! ## The decision (R115) -/

/-- The reason of a wheel that is computed and did not pass. -/
theorem wheelReason_failed {o : WheelOutcome} (computed : o ≠ .none) (failed : o ≠ .pass) :
    ∃ r, wheelReason o = some r := by
  cases o with
  | none => exact absurd rfl computed
  | pass => exact absurd rfl failed
  | disorder | range | noFlange | noFace | agreement => exact ⟨_, rfl⟩

/-- AGREEMENT of the deciding wheel gives DISAGREE, every other reason INVALID. -/
theorem decideState_wheelReason {o : WheelOutcome} {r : Reason} (sd : Side) (reason : wheelReason o = some r) :
    decideState (some (r, sd)) = if o = .agreement then .disagree else .invalid := by
  cases o with
  | none | pass => cases reason
  | disorder | range | noFlange | noFace | agreement => cases reason; rfl

/-- Wheel L is looked at first. -/
theorem decideReason_rows (w : Sides Wheel) :
    (w.l.outcome = .pass → w.r.outcome = .pass → decideReason w = none)
    ∧ (∀ r, wheelReason w.l.outcome = some r → decideReason w = some (r, .l))
    ∧ ∀ r, w.l.outcome = .pass → wheelReason w.r.outcome = some r → decideReason w = some (r, .r) := by
  unfold decideReason
  refine ⟨fun left right => ?_, fun r left => ?_, fun r left right => ?_⟩
  · rw [left, right]
    rfl
  · rw [left]
  · rw [left, right]
    rfl

theorem completedMeasurement_decides (s : State) (st : Station) :
    let m := completedMeasurement s st
    let left := m.wheels.l.outcome
    let right := m.wheels.r.outcome
    (left = .pass → right = .pass → m.state = .valid ∧ m.reason = none ∧ m.reasonWheel = none)
      ∧ (left ≠ .pass → m.reason = wheelReason left ∧ m.reasonWheel = some .l
          ∧ m.state = if left = .agreement then .disagree else .invalid)
      ∧ (left = .pass → right ≠ .pass → m.reason = wheelReason right ∧ m.reasonWheel = some .r
          ∧ m.state = if right = .agreement then .disagree else .invalid) := by
  intro m left right
  have reason : m.reason = (decideReason m.wheels).map Prod.fst := rfl
  have reasonWheel : m.reasonWheel = (decideReason m.wheels).map Prod.snd := rfl
  have state : m.state = decideState (decideReason m.wheels) := rfl
  obtain ⟨passedRow, leftRow, rightRow⟩ := decideReason_rows m.wheels
  have leftComputed : left ≠ .none := computeWheel_outcome_ne_none _ _
  have rightComputed : right ≠ .none := computeWheel_outcome_ne_none _ _
  refine ⟨fun leftPassed rightPassed => ?_, fun failed => ?_, fun leftPassed failed => ?_⟩
  · rw [reason, reasonWheel, state, passedRow leftPassed rightPassed]
    exact ⟨rfl, rfl, rfl⟩
  · obtain ⟨r, given⟩ := wheelReason_failed leftComputed failed
    rw [reason, reasonWheel, state, leftRow r given, given]
    exact ⟨rfl, rfl, decideState_wheelReason .l given⟩
  · obtain ⟨r, given⟩ := wheelReason_failed rightComputed failed
    rw [reason, reasonWheel, state, rightRow r leftPassed given, given]
    exact ⟨rfl, rfl, decideState_wheelReason .r given⟩

end Sys2Proof.Machine

namespace Sys2Proof

open Sys2Proof.Machine

/-- Settles O39: the taping radius and the crossings by their searches over the points, each outcome of a wheel by the check
that gives it, and the decision by `completedMeasurement_decides`. -/
theorem wheelFigures : Obligations.WheelFigures := by
  refine ⟨fun yTap pts ascending => ⟨fun p mem => tapingRadius_of_mem ascending mem, ?_⟩,
    fun level pts => ⟨fun k a b here next above below => crossing_first_fall here next ⟨above, below⟩, crossing_eq_none⟩,
    fun i sd ascending => ⟨computeWheel_disorder i, fun ordered misses =>
      computeWheel_range ordered (rangePasses_eq_false misses), fun rTap ordered taped => ?_⟩,
    rfl, fun s st => ⟨rfl, completedMeasurement_decides s st⟩⟩
  · rintro pre a b post rfl
    exact tapingRadius_between ascending
  dsimp only
  rw [computeWheel_taped ascending ordered taped]
  obtain ⟨noFlangeRow, tipRow⟩ := tipWheel_rows i sd rTap { handedWheel sd with rTap := some rTap }
  refine ⟨fun bare => noFlangeRow <| flangePeak_keeps_best 0 fun p mem ⟨before, _⟩ => Int.not_lt.mpr (bare p mem) before,
    fun k tip here before highest first => ?_⟩
  have found : flangePeak i.yTap 0 none sd.points = some (k, tip) := by
    simpa using flangePeak_first_highest 0 here before highest first (best := none) nofun
  rw [tipRow k tip found]
  obtain ⟨noFaceRow, faceRow⟩ := faceWheel_rows i sd rTap ⟨k, tip.y, tip.r, tip.r - rTap⟩
    { handedWheel sd with rTap := some rTap, tip := some ⟨k, tip.y, tip.r, tip.r - rTap⟩ }
  refine ⟨noFaceRow, fun face faced => ⟨(faceRow face faced).1, fun tip2 sloped => ?_⟩⟩
  rw [(faceRow face faced).2 tip2 sloped, agreeWheel, rollerDiameter_eq]
  rfl

end Sys2Proof
end

section
/-! PROOFS. The statements about the planning arithmetic: the offsets, the coverage and the fit radii of a template, the
removals of a wheel, and the step lists. -/

namespace Sys2Proof.Machine

/-! ## The template offset (R146) -/

theorem offsetAt_cons_at {y : Int} {p : TemplatePoint} (ps : List TemplatePoint) (here : p.y = y) :
    offsetAt y (p :: ps) = p.t := by
  cases ps with
  | nil => exact if_pos here
  | cons q ps => exact if_pos here

theorem offsetAt_cons_between {y : Int} {p q : TemplatePoint} (ps : List TemplatePoint) (below : p.y < y)
    (above : y < q.y) : offsetAt y (p :: q :: ps) = lineOffset p q y :=
  (if_neg (Int.ne_of_lt below)).trans (if_pos ⟨below, above⟩)

/-- A point is passed over where a later point still lies at or before the place that is asked for. -/
theorem offsetAt_cons_of_mem {y : Int} {a b : TemplatePoint} {ps : List TemplatePoint}
    (ascending : (a :: ps).Pairwise fun p q => p.y < q.y) (mem : b ∈ ps) (reached : b.y ≤ y) :
    offsetAt y (a :: ps) = offsetAt y ps := by
  obtain ⟨first, tailAscending⟩ := List.pairwise_cons.mp ascending
  have before : a.y < y := Int.lt_of_lt_of_le (first b mem) reached
  cases ps with
  | nil => cases mem
  | cons q ps =>
    have next : q.y ≤ y := by
      rcases List.mem_cons.mp mem with rfl | later
      · exact reached
      · exact Int.le_trans (Int.le_of_lt (List.rel_of_pairwise_cons tailAscending later)) reached
    exact (if_neg (Int.ne_of_lt before)).trans (if_neg fun between => Int.not_lt.mpr next between.2)

theorem offsetAt_of_mem {ps : List TemplatePoint} {p : TemplatePoint}
    (ascending : ps.Pairwise fun p q => p.y < q.y) (mem : p ∈ ps) : offsetAt p.y ps = p.t := by
  induction ps with
  | nil => cases mem
  | cons a ps ih =>
    rcases List.mem_cons.mp mem with rfl | later
    · exact offsetAt_cons_at ps rfl
    · exact (offsetAt_cons_of_mem ascending later (Int.le_refl _)).trans (ih ascending.of_cons later)

theorem offsetAt_between {pre post : List TemplatePoint} {p q : TemplatePoint} {y : Int}
    (ascending : (pre ++ p :: q :: post).Pairwise fun p q => p.y < q.y) (below : p.y < y) (above : y < q.y) :
    offsetAt y (pre ++ p :: q :: post) = lineOffset p q y := by
  induction pre with
  | nil => exact offsetAt_cons_between post below above
  | cons a pre ih =>
    have passed := offsetAt_cons_of_mem ascending (b := p) (by simp) (Int.le_of_lt below)
    exact passed.trans (ih ascending.of_cons)

/-- The offset between two points is the line value rounded up, here times the distance of the points. -/
theorem lineOffset_mul_within (p q : TemplatePoint) (y : Int) (apart : p.y < q.y) :
    let d := q.y - p.y
    let exact := p.t * d + (q.t - p.t) * (y - p.y)
    exact ≤ lineOffset p q y * d ∧ lineOffset p q y * d < exact + d := by
  intro d exact
  have within := ceilDiv_mul_within ((q.t - p.t) * (y - p.y)) d (Int.sub_pos_of_lt apart)
  have split : lineOffset p q y * d = p.t * d + ceilDiv ((q.t - p.t) * (y - p.y)) d * d := Int.add_mul ..
  omega

/-! ## Coverage (R147) -/

theorem covers_iff (zone : Int × Int) (points : List Point) :
    covers zone points = true ↔
      (∃ first, points.head? = some first ∧ first.y ≤ zone.1 + 2000)
        ∧ (∃ last, points.getLast? = some last ∧ zone.2 - 2000 ≤ last.y) ∧ gapsCovered zone points = true := by
  unfold covers coverageMargin
  cases points.head? <;> cases points.getLast? <;> simp [and_assoc]

/-! ## Fit radii (R148) -/

/-- The smallest of a list with a first number is its greatest lower bound. -/
theorem le_leastOf {first x : Int} {rest : List Int} : x ≤ leastOf first rest ↔ x ≤ first ∧ ∀ y ∈ rest, x ≤ y := by
  unfold leastOf
  induction rest generalizing first with
  | nil => simp
  | cons a rest ih =>
    have least : x ≤ minInt first a ↔ x ≤ first ∧ x ≤ a := by unfold minInt; split <;> omega
    rw [List.foldl_cons, ih, least, List.forall_mem_cons, and_assoc]

theorem mem_zoneGaps {ps : List TemplatePoint} {zone : Int × Int} {rTap g : Int} {points : List Point} :
    g ∈ zoneGaps ps zone rTap points
      ↔ g = rTap ∨ ∃ p ∈ points, (zone.1 ≤ p.y ∧ p.y ≤ zone.2) ∧ p.r - offsetAt p.y ps = g := by
  simp [zoneGaps, inZone, and_assoc]

/-- A radius with the clean-up depth on it clears the taping sample and every zone sample exactly where it is at most the
smallest gap. -/
theorem le_leastGap {ps : List TemplatePoint} {zone : Int × Int} {rTap c x : Int} {points : List Point} :
    x + c ≤ leastGap ps zone rTap points
      ↔ x + c ≤ rTap ∧ ∀ p ∈ points, zone.1 ≤ p.y → p.y ≤ zone.2 → x + offsetAt p.y ps + c ≤ p.r := by
  simp only [leastGap, le_leastOf, mem_zoneGaps]
  constructor
  · rintro ⟨tap, gaps⟩
    refine ⟨tap, fun p mem above below => ?_⟩
    have gap := gaps _ (.inr ⟨p, mem, ⟨above, below⟩, rfl⟩)
    omega
  · rintro ⟨tap, samples⟩
    refine ⟨tap, ?_⟩
    rintro g (rfl | ⟨p, mem, ⟨above, below⟩, rfl⟩)
    · exact tap
    · have sample := samples p mem above below
      omega

/-- The floor to the grid is the highest grid radius at or below a radius. -/
theorem floorToGrid_highest (r : Int) :
    floorToGrid r % 25 = 0 ∧ floorToGrid r ≤ r ∧ ∀ x, x % 25 = 0 → x ≤ r → x ≤ floorToGrid r := by
  unfold floorToGrid radiusGrid
  refine ⟨by omega, by omega, fun x onGrid below => by omega⟩

/-- The fit radius is the highest grid radius that leaves the clean-up depth. -/
theorem fitRadius_highest (c : Int) (ps : List TemplatePoint) (zone : Int × Int) (rTap : Int) (points : List Point) :
    let clear := fun (x : Int) => x + c ≤ rTap
      ∧ ∀ p ∈ points, zone.1 ≤ p.y → p.y ≤ zone.2 → x + offsetAt p.y ps + c ≤ p.r
    fitRadius c ps zone rTap points % 25 = 0 ∧ clear (fitRadius c ps zone rTap points)
      ∧ ∀ x, x % 25 = 0 → clear x → x ≤ fitRadius c ps zone rTap points := by
  intro clear
  obtain ⟨onGrid, below, highest⟩ := floorToGrid_highest (leastGap ps zone rTap points - c)
  refine ⟨onGrid, Iff.mp le_leastGap (Int.add_le_of_le_sub_right below), fun x grid clears => ?_⟩
  exact highest x grid (Int.le_sub_right_of_add_le (Iff.mpr le_leastGap clears))

/-! ## Removals and step counts (R150) -/

theorem ceilDiv_eq (n d : Int) (positive : 0 < d) : ceilDiv n d = (n + d - 1) / d := by
  obtain ⟨low, high⟩ := ceilDiv_mul_within n d positive
  refine Int.le_antisymm ((Int.le_ediv_iff_mul_le positive).mpr (by omega)) (Int.lt_add_one_iff.mp ?_)
  have next : (ceilDiv n d + 1) * d = ceilDiv n d * d + d := by rw [Int.add_mul, Int.one_mul]
  exact (Int.ediv_lt_iff_lt_mul positive).mpr (by omega)

/-- The maximum removal is the largest of the removals at the taping line and at the zone samples. -/
theorem maximumRemoval_greatest {t : Template} {zone : Int × Int} (rTap : Int) (points : List Point) (radius : Int)
    (zoned : zoneOf t.points = some zone) :
    let m := maximumRemoval t rTap points radius
    let sample := fun (p : Point) => p ∈ points ∧ zone.1 ≤ p.y ∧ p.y ≤ zone.2
    let removal := fun (p : Point) => p.r - radius - offsetAt p.y t.points
    rTap - radius ≤ m ∧ (∀ p, sample p → removal p ≤ m) ∧ (m = rTap - radius ∨ ∃ p, sample p ∧ m = removal p) := by
  intro m sample removal
  obtain ⟨tap, above, attained⟩ := foldl_maxInt (zoneGaps t.points zone rTap points) rTap
  have greatest : m = (zoneGaps t.points zone rTap points).foldl maxInt rTap - radius := by
    simp only [m, maximumRemoval, zoned, greatestGap, greatestOf]
  refine ⟨by omega, ?_, ?_⟩
  · rintro p ⟨mem, inside⟩
    have gap := above _ (Iff.mpr mem_zoneGaps (.inr ⟨p, mem, inside, rfl⟩))
    simp only [removal]
    omega
  · rw [mem_zoneGaps] at attained
    obtain tapGap | tapGap | ⟨p, mem, inside, gap⟩ := attained
    · exact .inl (by omega)
    · exact .inl (by omega)
    · exact .inr ⟨p, ⟨mem, inside⟩, by simp only [removal]; omega⟩

theorem removalsAt_get {s : State} {r : PositionRecord} {used : Nat} {t : Template} (st : Station) (radius : Int)
    (sd : Side) (uses : r.used = some used) (loaded : (slotAt s.slots used).template = some t) :
    (removalsAt s st r radius).get sd
      = maximumRemoval t ((measuredRadii s st).get sd) ((keptPoints s st).get sd) radius := by
  simp only [removalsAt, uses, Option.getD_some, loaded]
  cases sd <;> rfl

theorem roughCount_eq (f maxRough m : Int) :
    roughCount f maxRough m = if m ≤ f then 0 else (ceilDiv (m - f) maxRough).toNat := rfl

/-- A wheel's removal above the finish depth fits into its rough steps, of which there is at least one. -/
theorem roughCount_suffices {f maxRough m : Int} (positive : 0 < maxRough) (deep : f < m) :
    0 < (roughCount f maxRough m : Int) ∧ m - f ≤ roughCount f maxRough m * maxRough := by
  have within := ceilDiv_mul_within (m - f) maxRough positive
  have above : 0 < ceilDiv (m - f) maxRough :=
    Int.lt_of_mul_lt_mul_right (by rw [Int.zero_mul]; omega) (Int.le_of_lt positive)
  rw [roughCount_eq, if_neg (Int.not_le.mpr deep), Int.toNat_of_nonneg (Int.le_of_lt above)]
  exact ⟨above, within.1⟩

theorem roughCount_lt_stepCountOf (f maxRough : Int) (m : Sides Int) (sd : Side) :
    roughCount f maxRough (m.get sd) < stepCountOf f maxRough m := by
  refine Nat.lt_succ_of_le ?_
  cases sd with
  | l => exact Nat.le_max_left ..
  | r => exact Nat.le_max_right ..

/-- The steps of an axle are enough for a wheel: one is the finish, and the rough ones hold a removal above the finish
depth. -/
def StepsSuffice (f maxRough m : Int) (n : Nat) : Prop :=
  1 ≤ n ∧ (f < m → 0 < (n : Int) - 1 ∧ m - f ≤ ((n : Int) - 1) * maxRough)

theorem stepCountOf_suffices (f maxRough : Int) (m : Sides Int) (sd : Side) (positive : 0 < maxRough) :
    StepsSuffice f maxRough (m.get sd) (stepCountOf f maxRough m) := by
  have counted := roughCount_lt_stepCountOf f maxRough m sd
  refine ⟨by omega, fun deep => ?_⟩
  obtain ⟨roughStep, fits⟩ := roughCount_suffices positive deep
  have fewer : (roughCount f maxRough (m.get sd) : Int) ≤ stepCountOf f maxRough m - 1 := by omega
  exact ⟨by omega, Int.le_trans fits (Int.mul_le_mul_of_nonneg_right fewer (Int.le_of_lt positive))⟩

/-! ## The depths of a wheel (R153) -/

theorem stepDepth_eq (f m : Int) (n j : Nat) :
    stepDepth f m n j = if m ≤ f then (if j < n then 0 else m)
      else if j < n then (m - f) / ((n : Int) - 1) + (if (j : Int) ≤ (m - f) % ((n : Int) - 1) then 1 else 0)
      else f := rfl

theorem stepDepth_finish (f m : Int) (n : Nat) : stepDepth f m n n = if m ≤ f then m else f := by
  rw [stepDepth_eq, if_neg (Nat.lt_irrefl n), if_neg (Nat.lt_irrefl n)]

theorem stepDepth_shallow {f m : Int} {n j : Nat} (shallow : m ≤ f) (rough : j < n) : stepDepth f m n j = 0 := by
  rw [stepDepth_eq, if_pos shallow, if_pos rough]

theorem stepDepth_deep {f m : Int} {n j : Nat} (deep : f < m) (rough : j < n) :
    stepDepth f m n j = (m - f) / ((n : Int) - 1) + (if (j : Int) ≤ (m - f) % ((n : Int) - 1) then 1 else 0) := by
  rw [stepDepth_eq, if_neg (Int.not_le.mpr deep), if_pos rough]

/-- A rough depth lies between 0 and p_max. -/
theorem stepDepth_rough_within {f maxRough m : Int} {n j : Nat} (positive : 0 < maxRough)
    (suffice : StepsSuffice f maxRough m n) (counted : 1 ≤ j) (rough : j < n) :
    0 ≤ stepDepth f m n j ∧ stepDepth f m n j ≤ maxRough := by
  by_cases shallow : m ≤ f
  · rw [stepDepth_shallow shallow rough]
    omega
  · have deep : f < m := Int.not_le.mp shallow
    obtain ⟨shared, fits⟩ := suffice.2 deep
    rw [stepDepth_deep deep rough]
    generalize (n : Int) - 1 = steps at shared fits ⊢
    have whole := Int.mul_ediv_add_emod (m - f) steps
    have low := Int.emod_nonneg (m - f) (Int.ne_of_gt shared)
    have quotient : 0 ≤ (m - f) / steps := Int.ediv_nonneg (by omega) (Int.le_of_lt shared)
    have atMost : (m - f) / steps ≤ maxRough := Int.ediv_le_of_le_mul shared (by rwa [Int.mul_comm] at fits)
    refine ⟨by split <;> omega, ?_⟩
    by_cases full : (m - f) / steps = maxRough
    · rw [full] at whole ⊢
      rw [if_neg (by omega)]
      omega
    · split <;> omega

theorem stepDepth_finish_pos {f m : Int} {n : Nat} (finish : 0 < f) (removes : 0 < m) : 0 < stepDepth f m n n := by
  rw [stepDepth_finish]
  split <;> assumption

/-- No depth of a wheel is below 0. -/
theorem stepDepth_nonneg {f maxRough m : Int} {n j : Nat} (finish : 0 < f) (removes : 0 < m) (positive : 0 < maxRough)
    (suffice : StepsSuffice f maxRough m n) (counted : 1 ≤ j) (inside : j ≤ n) : 0 ≤ stepDepth f m n j := by
  obtain rough | rfl := Nat.lt_or_eq_of_le inside
  · exact (stepDepth_rough_within positive suffice counted rough).1
  · exact Int.le_of_lt (stepDepth_finish_pos finish removes)

theorem depthSum_zero (f m : Int) (n : Nat) : depthSum f m n 0 = 0 := rfl

theorem depthSum_succ (f m : Int) (n j : Nat) :
    depthSum f m n (j + 1) = depthSum f m n j + stepDepth f m n (j + 1) := rfl

/-- A wheel that needs no rough step loses nothing before the finish. -/
theorem depthSum_shallow {f m : Int} {n j : Nat} (shallow : m ≤ f) (rough : j < n) : depthSum f m n j = 0 := by
  induction j with
  | zero => rfl
  | succ j ih => rw [depthSum_succ, ih (Nat.lt_of_succ_lt rough), stepDepth_shallow shallow rough, Int.add_zero]

/-- The first j rough steps take j equal shares, and 1 more each while the remainder lasts. -/
theorem depthSum_deep {f m : Int} {n j : Nat} (deep : f < m) (shared : 0 < (n : Int) - 1) (rough : j < n) :
    depthSum f m n j = j * ((m - f) / ((n : Int) - 1)) + min (j : Int) ((m - f) % ((n : Int) - 1)) := by
  induction j with
  | zero =>
    have low := Int.emod_nonneg (m - f) (Int.ne_of_gt shared)
    rw [depthSum_zero, Int.natCast_zero, Int.zero_mul, Int.min_eq_left low, Int.add_zero]
  | succ j ih =>
    rw [depthSum_succ, ih (Nat.lt_of_succ_lt rough), stepDepth_deep deep rough, Int.natCast_add_one, Int.add_mul]
    split <;> omega

/-- All depths of a wheel add up to its maximum removal. -/
theorem depthSum_all {f maxRough m : Int} {n : Nat} (suffice : StepsSuffice f maxRough m n) : depthSum f m n n = m := by
  obtain ⟨oneStep, deepFits⟩ := suffice
  obtain ⟨k, rfl⟩ := Nat.exists_eq_add_of_le' oneStep
  rw [depthSum_succ, stepDepth_finish]
  by_cases shallow : m ≤ f
  · rw [depthSum_shallow shallow (Nat.lt_succ_self k), if_pos shallow, Int.zero_add]
  · have deep : f < m := Int.not_le.mp shallow
    have shared := (deepFits deep).1
    have steps : ((k + 1 : Nat) : Int) - 1 = k := by omega
    rw [depthSum_deep deep shared (Nat.lt_succ_self k), if_neg shallow, steps]
    rw [steps] at shared
    have whole := Int.mul_ediv_add_emod (m - f) k
    have high := Int.emod_lt_of_pos (m - f) shared
    omega

/-! ## The targets of a wheel (R154) -/

theorem stepTarget_eq (rFinal f m : Int) (n j : Nat) :
    stepTarget rFinal f m n j = rFinal + (m - depthSum f m n j) := rfl

theorem stepTarget_zero (rFinal f m : Int) (n : Nat) : stepTarget rFinal f m n 0 = rFinal + m := by
  rw [stepTarget_eq, depthSum_zero, Int.sub_zero]

theorem stepTarget_succ (rFinal f m : Int) (n j : Nat) :
    stepTarget rFinal f m n (j + 1) = stepTarget rFinal f m n j - stepDepth f m n (j + 1) := by
  rw [stepTarget_eq, stepTarget_eq, depthSum_succ]
  omega

/-- The finish step ends at R_final. -/
theorem stepTarget_finish {rFinal f maxRough m : Int} {n : Nat} (suffice : StepsSuffice f maxRough m n) :
    stepTarget rFinal f m n n = rFinal := by
  rw [stepTarget_eq, depthSum_all suffice, Int.sub_self, Int.add_zero]

/-! ## The step list (R138, R153) -/

theorem makeSteps_eq (rFinal f : Int) (m : Sides Int) (n : Nat) :
    makeSteps rFinal f m n = (List.range n).map fun k => makeStep rFinal f m n (k + 1) := rfl

theorem makeSteps_length (rFinal f : Int) (m : Sides Int) (n : Nat) : (makeSteps rFinal f m n).length = n := by
  rw [makeSteps_eq, List.length_map, List.length_range]

theorem makeSteps_getElem? {rFinal f : Int} {m : Sides Int} {n k : Nat} (h : k < n) :
    (makeSteps rFinal f m n)[k]? = some (makeStep rFinal f m n (k + 1)) := by
  rw [makeSteps_eq, List.getElem?_map, List.getElem?_range h, Option.map_some]

theorem makeSteps_get {rFinal f : Int} {m : Sides Int} {n k : Nat} {e : StepEntry}
    (entry : (makeSteps rFinal f m n)[k]? = some e) : k < n ∧ e = makeStep rFinal f m n (k + 1) := by
  obtain ⟨inside, -⟩ := List.getElem?_eq_some_iff.mp entry
  rw [makeSteps_length] at inside
  exact ⟨inside, Option.some.inj (entry.symm.trans (makeSteps_getElem? inside))⟩

theorem makeStep_depth (rFinal f : Int) (m : Sides Int) (n j : Nat) (sd : Side) :
    (makeStep rFinal f m n j).depth.get sd = stepDepth f (m.get sd) n j := Sides.get_map ..

theorem makeStep_target (rFinal f : Int) (m : Sides Int) (n j : Nat) (sd : Side) :
    (makeStep rFinal f m n j).target.get sd = stepTarget rFinal f (m.get sd) n j := Sides.get_map ..

theorem makeStep_kind (rFinal f : Int) (m : Sides Int) (n j : Nat) :
    (makeStep rFinal f m n j).kind = if j < n then .rough else .finish := rfl

/-- The last step of a list is its FINISH, and no other. -/
theorem makeStep_kind_finish {rFinal f : Int} {m : Sides Int} {n j : Nat} (inside : j ≤ n) :
    (makeStep rFinal f m n j).kind = .finish ↔ j = n := by
  rw [makeStep_kind]
  split
  · simp; omega
  · simp; omega

/-- The depths of the first k entries add up to the depth sum of k steps. -/
theorem makeSteps_take_sum {rFinal f : Int} {m : Sides Int} {n : Nat} (sd : Side) {k : Nat} (h : k ≤ n) :
    (((makeSteps rFinal f m n).take k).map fun e => e.depth.get sd).sum = depthSum f (m.get sd) n k := by
  induction k with
  | zero => rfl
  | succ k ih =>
    rw [List.take_add_one, makeSteps_getElem? h, List.map_append, List.sum_append, ih (Nat.le_of_succ_le h)]
    rw [Option.toList_some, List.map_singleton, List.sum_singleton, makeStep_depth, depthSum_succ]

theorem makeSteps_sum {rFinal f : Int} {m : Sides Int} {n : Nat} (sd : Side) :
    ((makeSteps rFinal f m n).map fun e => e.depth.get sd).sum = depthSum f (m.get sd) n n := by
  have all := makeSteps_take_sum (rFinal := rFinal) (f := f) (m := m) sd (Nat.le_refl n)
  rwa [List.take_of_length_le (Nat.le_of_eq (makeSteps_length ..))] at all

/-- The target before an entry: that of the entry before it, or the whole removal above R_final at the first one. -/
theorem makeSteps_before {rFinal f : Int} {m : Sides Int} {n k : Nat} (sd : Side) (h : k < n) :
    (if k = 0 then rFinal + m.get sd
      else (((makeSteps rFinal f m n).map fun x => x.target.get sd)[k - 1]?).getD 0)
      = stepTarget rFinal f (m.get sd) n k := by
  cases k with
  | zero => exact (stepTarget_zero ..).symm
  | succ k =>
    rw [if_neg (Nat.succ_ne_zero k), List.getElem?_map, Nat.add_sub_cancel, makeSteps_getElem? (Nat.lt_of_succ_lt h)]
    exact makeStep_target ..

end Sys2Proof.Machine

namespace Sys2Proof

open Sys2Proof.Machine

/-- Settles O40: the offset by the walk over the points (`offsetAt_between`), the coverage (`covers_iff`), and the radii, each the
highest on the grid that leaves the clean-up depth (`fitRadius_highest`). -/
theorem fittedTemplateLeavesCleanUp : Obligations.FittedTemplateLeavesCleanUp := by
  refine ⟨fun ps first last head ends => by rw [zoneOf, head, ends],
    fun ps ascending => ⟨fun p mem => offsetAt_of_mem ascending mem, ?_⟩,
    fun zone points => by rw [covers_iff, gapsCovered_iff], fun c t zone rTap points zoned => ⟨?_, ?_, ?_⟩⟩
  · rintro pre p q post y rfl below above
    rw [offsetAt_between ascending below above]
    exact lineOffset_mul_within p q y (Int.lt_trans below above)
  · intro leftMisses
    simp [evaluateTemplate, zoned, leftMisses]
  · intro leftCovers rightMisses
    simp [evaluateTemplate, zoned, leftCovers, rightMisses]
  · intro leftCovers rightCovers
    refine ⟨⟨fitRadius c t.points zone rTap.l points.l, fitRadius c t.points zone rTap.r points.r⟩,
      by simp [evaluateTemplate, zoned, leftCovers, rightCovers], fun sd => ?_⟩
    cases sd with
    | l => exact fitRadius_highest c t.points zone rTap.l points.l
    | r => exact fitRadius_highest c t.points zone rTap.r points.r

/-- Settles O41: the maximum removals (`maximumRemoval_greatest`), the depths, which add up to the removal (`depthSum_all`), and
the targets, each the one before it less the depth (`stepTarget_succ`). -/
theorem stepList : Obligations.StepList := by
  refine ⟨fun s st r => rfl, fun s st r used t zone radius sd uses loaded zoned => ?_,
    fun f maxRough m positive => ?_, ?_⟩
  · intro m
    have greatest := maximumRemoval_greatest ((measuredRadii s st).get sd) ((keptPoints s st).get sd) radius zoned
    rw [← removalsAt_get st radius sd uses loaded] at greatest
    simpa only [measuredRadii, keptPoints, Sides.get_map] using greatest
  · simp only [stepCountOf, roughCount_eq, ceilDiv_eq _ _ positive]
  · intro rFinal f maxRough m n finish positive removesL removesR counted steps
    have suffice : ∀ sd, StepsSuffice f maxRough (m.get sd) n :=
      fun sd => counted ▸ stepCountOf_suffices f maxRough m sd positive
    refine ⟨(suffice .l).1, makeSteps_length .., fun sd => ⟨?_, fun k e entry => ?_⟩⟩
    · exact (makeSteps_sum sd).trans (depthSum_all (suffice sd))
    · obtain ⟨inside, rfl⟩ := makeSteps_get entry
      have removes : 0 < m.get sd := by cases sd <;> assumption
      rw [makeSteps_before sd inside, makeSteps_take_sum sd inside, makeStep_depth, makeStep_target]
      have nonneg := stepDepth_nonneg finish removes positive (suffice sd) (Nat.le_add_left 1 k) inside
      have falls := stepTarget_succ rFinal f (m.get sd) n k
      refine ⟨rfl, makeStep_kind_finish inside, rfl, rfl,
        stepDepth_rough_within positive (suffice sd) (Nat.le_add_left 1 k), fun last => ?_, by omega,
        fun idle => by omega⟩
      rw [last]
      exact ⟨stepDepth_finish_pos finish removes, stepTarget_finish (suffice sd)⟩

end Sys2Proof
end

section
/-! PROOFS. The statement about TAKE_PASS: its rows, and the step that it issues. -/

namespace Sys2Proof.Machine

/-! ## TAKE_PASS (R166) -/

/-- Rows 2 to 6 of R166 for a station that exists. -/
theorem serveTakePass_rows {s : State} {station : Nat} {st : Station} (named : stationArg s station = some st) :
    (s.cut.state ≠ .running ∨ ¬ WorkAdmitted s st → serveTakePass station s = refuse .interlock s)
      ∧ (s.cut.state = .running → WorkAdmitted s st →
        (scanInFlight s st = true → serveTakePass station s = refuse .busy s)
          ∧ (scanInFlight s st = false → (stepInFlight s st).isSome = true →
              serveTakePass station s = refuse .inFlight s)
          ∧ (scanInFlight s st = false → stepInFlight s st = none →
              ((s.cut.contexts.get st).next = none → serveTakePass station s = refuse .none s)
                ∧ ∀ k, (s.cut.contexts.get st).next = some k → serveTakePass station s = offerStep st k s)) := by
  simp only [serveTakePass, named, ← workAdmitted_iff]
  refine ⟨?_, fun running admitted => ?_⟩
  · rintro (notRunning | barred)
    · simp [notRunning]
    · simp [barred]
  · refine ⟨fun scanning => ?_, fun idle flying => ?_, fun idle still => ⟨fun last => ?_, fun k next => ?_⟩⟩
    · simp [running, admitted, scanning]
    · simp [running, admitted, idle, flying]
    · simp [running, admitted, idle, still, last]
    · simp [running, admitted, idle, still, next]

/-- Row 7 of R166: the tools that a step would cut with and whose edge life is 0. -/
theorem wornTools_eq {s : State} {st : Station} {k : Nat} {e : StepEntry} (entry : stepEntry s st k = some e) :
    wornTools s st k = ⟨decide (0 < e.depth.l ∧ (s.cut.tools.get st).l = 0),
      decide (0 < e.depth.r ∧ (s.cut.tools.get st).r = 0)⟩ := by
  simp only [wornTools, depthsOf, entry, Option.map_some, Option.getD_some, Bool.decide_and]
  rfl

theorem issuedRecord_eq {s : State} {st : Station} {k template : Nat} {e : StepEntry}
    (entry : stepEntry s st k = some e) (used : (planRecord s st).bind PositionRecord.used = some template) :
    issuedRecord s st k = stepRecordBytes (jobNumber s) st template e := by
  simp only [issuedRecord, entry, used, Option.getD_some]

/-! ## An issued step (R167) -/

/-- The state with a step in flight, its late mark cleared and its timer started. -/
def withStep (st : Station) (k : Nat) (s : State) : State :=
  { s with
    cut := { s.cut with
      contexts := s.cut.contexts.set st
        { s.cut.contexts.get st with inFlight := some k, late := none, stepTime := some s.config.stepTime }
      timers := s.cut.timers.set st (some (1000 * s.config.stepTime).toNat) } }

/-- While the pit is CLAMPED or CUTTING no cause stands, a job is open and the support condition holds. -/
theorem clamped_or_cutting_reads {s : State} (derived : PhaseDerived s)
    (phase : s.interlock.phase = .clamped ∨ s.interlock.phase = .cutting) :
    s.interlock.causes.nonempty = false ∧ ∃ j, s.job = some j ∧ supportHolds s j = true := by
  unfold PhaseDerived at derived
  cases calm : s.interlock.causes.nonempty with
  | true =>
    rw [derivedPhase_halted calm, Option.some.injEq] at derived
    simp [← derived] at phase
  | false =>
    cases job : s.job with
    | none =>
      rw [derivedPhase_idle calm job, Option.some.injEq] at derived
      simp [← derived] at phase
    | some j =>
      rw [derivedPhase_open calm job] at derived
      grind

/-- A step in flight at a station that admits work derives CUTTING (R167). -/
theorem derivedPhase_withStep {s : State} {st : Station} (k : Nat) (derived : PhaseDerived s)
    (admitted : WorkAdmitted s st) : derivedPhase (withStep st k s) = some .cutting := by
  obtain ⟨phase, clamped⟩ := admitted
  obtain ⟨calm, j, job, holds⟩ := clamped_or_cutting_reads derived phase
  obtain ⟨here, closed⟩ := Bool.and_eq_true_iff.mp clamped
  have exist := (stationExists_iff s st).mp here
  have someClamped : anyClamped (withStep st k s) = true := (anyClamped_iff _).mpr ⟨st, exist, closed⟩
  have flying : anyStepInFlight (withStep st k s) = true :=
    (anyStepInFlight_iff _).mpr ⟨st, exist, by simp [withStep]⟩
  have supported : supportHolds (withStep st k s) j = true := holds
  rw [derivedPhase_open (s := withStep st k s) calm job, if_pos supported, if_pos someClamped, if_pos flying]

theorem issueStep_eq {s : State} {st : Station} (k : Nat) (derived : PhaseDerived s) (admitted : WorkAdmitted s st) :
    issueStep st k s = postAll (phaseNotice s .cutting)
      { withStep st k s with interlock := heldPhase s .cutting s.interlock.clamped } :=
  rederive_eq (derivedPhase_withStep k derived admitted)

end Sys2Proof.Machine

namespace Sys2Proof

open Sys2Proof.Machine

/-- Settles O47: the rows of R166 (`serveTakePass_rows`, `wornTools_eq`), and the step that an admitted request issues
(`issueStep_eq`). -/
theorem takePass : Obligations.TakePass := by
  refine ⟨fun job template st e => ?_, fun tag station s ready => ?_⟩
  · cases st <;> cases kind : e.kind <;> simp [stepRecordBytes, stationNumber, kind, StepKind.code]
  intro answered
  have ends {y : State} {a : Answer} {ns : List NoticeBody} (served : serveTakePass station s = (postAll ns y, a))
      (kept : y.ports = s.ports) : exec (.takePass .lathe tag station) s = .next (carriedOut .lathe tag 0x58 a ns y) :=
    exec_served (w := ⟨tag, .takePass station⟩) rfl ready (by simp) rfl served kept
  have refused : ∀ {r}, serveTakePass station s = refuse r s → answered r := fun served => ends (ns := []) served rfl
  refine ⟨fun missing => refused (by rw [serveTakePass, missing]), fun st named => ?_⟩
  intro c lives
  obtain ⟨barred, opened⟩ := serveTakePass_rows named
  refine ⟨fun h => refused (barred h), fun running admitted => ?_⟩
  obtain ⟨busy, inFlight, free⟩ := opened running admitted
  refine ⟨fun h => refused (busy h), fun h f => refused (inFlight h f),
    fun idle still last => refused ((free idle still).1 last), ?_⟩
  intro k e template idle still next entry used wornL wornR
  have served := (free idle still).2 k next
  have worn : wornTools s st k = ⟨wornL, wornR⟩ := wornTools_eq entry
  refine ⟨fun dull => ends (ns := []) ?_ rfl, fun sharpL sharpR derived => ends ?_ rfl⟩
  · rw [served, offerStep, worn, if_pos (by simpa using dull)]
    rfl
  · rw [served, offerStep, worn, sharpL, sharpR, issuedRecord_eq entry used, issueStep_eq k derived admitted]
    rfl

end Sys2Proof
end

section
/-! PROOFS. The statement about the suspend cause and the plan: what each block does to the cut state, its cause and the plan, and
that every step keeps the three together. -/

namespace Sys2Proof.Machine

/-! ## What keeps the cut consistent (R136, R161) -/

/-- The items that the invariant reads: the cut state, its suspend cause and the plan. -/
def cutItems (s : State) : CutState × Option SuspendCause × Option Plan := (s.cut.state, s.cut.cause, s.plan)

/-- The later state is consistent in its cut state, its suspend cause and its plan where the earlier one was. -/
def KeepsCut (s t : State) : Prop := CutConsistent s → CutConsistent t

theorem KeepsCut.refl (s : State) : KeepsCut s s := id

theorem KeepsCut.trans {s t u : State} (first : KeepsCut s t) (second : KeepsCut t u) : KeepsCut s u :=
  fun h => second (first h)

/-- An event that leaves cut state, suspend cause and plan. -/
theorem KeepsCut.of_same {s t : State} (same : cutItems t = cutItems s) : KeepsCut s t := by
  simp only [cutItems, Prod.mk.injEq] at same
  obtain ⟨state, cause, plan⟩ := same
  intro h
  rwa [CutConsistent, state, cause, plan]

/-- A change of the cut state under a standing plan, with the suspend cause that belongs to the new state. -/
theorem KeepsCut.of_change {s t : State} (started : s.cut.state ≠ .none) (plan : t.plan = s.plan)
    (goesOn : t.cut.state ≠ .none) (cause : t.cut.cause.isSome = true ↔ t.cut.state = .suspended) : KeepsCut s t := by
  rintro ⟨-, planned⟩
  refine ⟨cause, ?_⟩
  rw [plan, planned]
  exact iff_of_false started goesOn

/-- A RUNNING cut that an event suspends takes the cause of the event (R161). -/
theorem KeepsCut.of_suspension {s t : State} {suspends : Bool} {cause : SuspendCause}
    (running : suspends = true → s.cut.state = .running) (plan : t.plan = s.plan)
    (state : t.cut.state = if suspends then .suspended else s.cut.state)
    (caused : t.cut.cause = if suspends then some cause else s.cut.cause) : KeepsCut s t := by
  cases suspends with
  | true => exact .of_change (by simp [running rfl]) plan (by simp [state]) (by simp [state, caused])
  | false => exact .of_same (by simp [cutItems, state, caused, plan])

/-- Without a plan, the cut is NONE without a cause. -/
theorem clearPlan_consistent (s : State) : CutConsistent (clearPlan s) := by simp [CutConsistent, clearPlan]

theorem discardPlan_consistent (s : State) : CutConsistent (discardPlan s) := clearPlan_consistent s

/-! ## Notices, records and ports -/

theorem postAll_keepsCut (ns : List NoticeBody) (s : State) : KeepsCut s (postAll ns s) := by
  rw [postAll_eq]
  exact .of_same rfl

theorem postIf_keepsCut (c : Bool) (n : NoticeBody) (s : State) : KeepsCut s (postIf c n s) := by
  rw [postIf_eq]
  exact postAll_keepsCut _ _

theorem changeBound_keepsCut (st : Station) (f : AxleRecord → AxleRecord) (changes : AxleRecord → AxleRecord → ChangeSet)
    (s : State) : KeepsCut s (changeBound st f changes s) := by
  unfold changeBound
  split <;> exact .of_same rfl

theorem bindRecord_keepsCut (identity : List Byte) (b : Binding) (s : State) : KeepsCut s (bindRecord identity b s) := by
  unfold bindRecord
  split <;> exact .of_same rfl

theorem bindPositions_keepsCut (j : Job) (first second : Binding) (s : State) :
    KeepsCut s (bindPositions j first second s) := by
  unfold bindPositions
  split
  · exact bindRecord_keepsCut _ _ _
  · exact (bindRecord_keepsCut _ _ _).trans (bindRecord_keepsCut _ _ _)

/-! ## Halts, derivations and lost steps -/

theorem halt_keepsCut (cause : HaltCause) (s : State) : KeepsCut s (halt cause s) := by
  rw [halt_eq]
  refine KeepsCut.trans ?_ (postAll_keepsCut _ _)
  exact .of_suspension (suspends := anyStepInFlight s && s.cut.state == .running) (by simp) rfl rfl rfl

theorem rederive_keepsCut (s : State) : KeepsCut s (rederive s) := by
  unfold rederive
  split
  · rw [holdPhase_eq]
    exact KeepsCut.trans (.of_same (by rfl)) (postAll_keepsCut _ _)
  · exact halt_keepsCut .support s

theorem raiseCause_keepsCut (cause : HaltCause) (s : State) : KeepsCut s (raiseCause cause s) := by
  unfold raiseCause
  split
  · exact .of_same rfl
  · exact halt_keepsCut cause s

theorem loseStep_keepsCut (st : Station) (cause : SuspendCause) (s : State) : KeepsCut s (loseStep st cause s) := by
  rw [loseStep, suspendIfRunning_eq]
  exact .of_suspension (suspends := s.cut.state == .running) (by simp) rfl rfl rfl

/-! ## The lift, the clamps, the e-stop chain and the settings -/

/-- The lift is no part of the cut, so a change of it is followed by a derivation at most. -/
theorem rederiveIfLiftChanged_keepsCut (before : LiftState) (s : State) : KeepsCut s (rederiveIfLiftChanged before s) := by
  unfold rederiveIfLiftChanged
  split
  · exact .refl s
  · exact rederive_keepsCut s

theorem postWorkingDone_keepsCut (working : Option Move) (outcome : LiftOutcome) (cause : Option HaltCause) (s : State) :
    KeepsCut s (postWorkingDone working outcome cause s) := by
  rw [postWorkingDone_eq]
  exact postAll_keepsCut _ _

theorem dropStaged_keepsCut (s : State) : KeepsCut s (dropStaged s) := by
  rw [dropStaged_eq]
  exact KeepsCut.trans (.of_same (by rfl)) (postAll_keepsCut _ _)

theorem endShort_keepsCut (s : State) : KeepsCut s (endShort s) := by
  rw [endShort_eq]
  exact KeepsCut.trans (.of_same (by rfl)) (postAll_keepsCut _ _)

theorem stopRamping_keepsCut (s : State) : KeepsCut s (stopRamping s) := by
  unfold stopRamping
  split
  · exact (dropStaged_keepsCut s).trans (.of_same (by rfl))
  · exact (dropStaged_keepsCut s).trans (.of_same (by rfl))
  · exact (dropStaged_keepsCut s).trans (.of_same (by rfl))
  · exact endShort_keepsCut s
  · exact endShort_keepsCut s
  · exact .refl s
  · exact .refl s

theorem stopImmediately_keepsCut (s : State) : KeepsCut s (stopImmediately s) := by
  unfold stopImmediately
  split
  · exact endShort_keepsCut s
  · exact .refl s

theorem faultLift_keepsCut (cause : HaltCause) (named : Jacks Bool) (s : State) :
    KeepsCut s (faultLift cause named s) := by
  have rests : KeepsCut s (setLift (restLift .fault s.lift) s) := .of_same rfl
  have ended := (rests.trans (postWorkingDone_keepsCut s.lift.working .faulted (some cause) _)).trans (dropStaged_keepsCut _)
  exact (ended.trans (.of_same (by rfl))).trans (raiseCause_keepsCut _ _)

theorem reachTarget_keepsCut (s : State) : KeepsCut s (reachTarget s) := by
  have cleared : KeepsCut s (setLift (clearTargets { s.lift with settleTimer := none }) s) := .of_same rfl
  have done := cleared.trans (postWorkingDone_keepsCut s.lift.working .reached none _)
  unfold reachTarget
  simp only []
  split
  · exact done.trans (.of_same (by rfl))
  · split
    · exact done.trans (.of_same (by rfl))
    · exact (done.trans (.of_same (by rfl))).trans (dropStaged_keepsCut _)

theorem profileTick_keepsCut (s : State) : KeepsCut s (profileTick s) := by
  unfold profileTick
  split
  · refine KeepsCut.trans ?_ (rederiveIfLiftChanged_keepsCut _ _)
    split
    · exact KeepsCut.trans (.of_same (by rfl)) (endShort_keepsCut _)
    · exact .of_same rfl
  · exact .refl s

theorem takeSample_keepsCut (readings : Jacks Int) (s : State) : KeepsCut s (takeSample readings s) := by
  have sampled : KeepsCut s (setLift (sampledLift readings s.lift) s) := .of_same rfl
  refine sampled.trans ?_
  unfold takeSample handToInterlock
  simp only []
  repeat' split
  · exact faultLift_keepsCut _ _ _
  · exact faultLift_keepsCut _ _ _
  · exact (reachTarget_keepsCut _).trans (rederive_keepsCut _)
  · exact rederive_keepsCut _
  · exact .refl _

theorem expireSettle_keepsCut (s : State) : KeepsCut s (expireSettle s) := by
  unfold expireSettle
  split
  · exact faultLift_keepsCut _ _ _
  · exact .refl s

theorem serveLiftMove_keepsCut (target : Int) (moveClass : Nat) (s : State) :
    KeepsCut s (serveLiftMove target moveClass s).1 := by
  unfold serveLiftMove
  repeat' split
  case isFalse.isFalse => exact KeepsCut.trans (.of_same (by rfl)) (rederive_keepsCut _)
  all_goals exact .of_same rfl

theorem serveClampRequest_keepsCut (station : Nat) (s : State) : KeepsCut s (serveClampRequest station s).1 := by
  unfold serveClampRequest
  repeat' split
  case isFalse => exact KeepsCut.trans (.of_same (by rfl)) (rederive_keepsCut _)
  all_goals exact .refl s

theorem endScan_keepsCut (st : Station) (cause : EndCause) (s : State) : KeepsCut s (endScan st cause s) := by
  unfold endScan
  split
  · exact .of_same rfl
  · exact .refl s

theorem unclamp_keepsCut (st : Station) (s : State) : KeepsCut s (unclamp st s) := by
  have stepLost : KeepsCut s (if (stepInFlight s st).isSome then loseStep st .clampLost s else s) := by
    split
    · exact loseStep_keepsCut _ _ _
    · exact .refl s
  have scanEnds : ∀ x, KeepsCut x (if scanInFlight x st then postScanDone st (endScan st .clampLost x) else x) := by
    intro x
    split
    · exact (endScan_keepsCut _ _ _).trans (.of_same (by rfl))
    · exact .refl x
  exact ((stepLost.trans (scanEnds _)).trans (.of_same (by rfl))).trans (rederive_keepsCut _)

theorem serveUnclampReport_keepsCut (station : Nat) (s : State) : KeepsCut s (serveUnclampReport station s).1 := by
  unfold serveUnclampReport
  split
  · exact .refl s
  · simp only [answerOk]
    split
    · exact unclamp_keepsCut _ _
    · exact .refl s

theorem serveAckFault_keepsCut (s : State) : KeepsCut s (serveAckFault s).1 := by
  unfold serveAckFault
  repeat' split
  case isFalse => exact KeepsCut.trans (.of_same (by rfl)) (rederive_keepsCut _)
  all_goals exact .refl s

theorem assertEstop_keepsCut (s : State) : KeepsCut s (assertEstop s) := by
  have latched : KeepsCut s (setLatch true s) := .of_same rfl
  refine latched.trans ?_
  unfold assertEstop
  simp only []
  split
  · exact .of_same rfl
  · exact (stopImmediately_keepsCut _).trans (halt_keepsCut _ _)

theorem serveSetConfig_keepsCut (item index : Nat) (value : Int) (s : State) :
    KeepsCut s (serveSetConfig item index value s).1 := by
  have taken : ∀ c, KeepsCut s (takeConfiguration c s) := by
    intro c
    have stored : KeepsCut s (setConfiguration c s) := by
      unfold setConfiguration
      split <;> exact .of_same rfl
    unfold takeConfiguration
    simp only []
    split
    · exact stored.trans (rederive_keepsCut _)
    · exact stored
  unfold serveSetConfig
  split
  · exact .refl s
  · split
    · exact .refl s
    · exact taken _

/-! ## The Cut Sequencer -/

/-- START_CUT, RESUME_CUT and the end of a cut change its state under the standing plan. -/
theorem setCutState_keepsCut {s : State} {state : CutState} {cause : Option SuspendCause} (started : s.cut.state ≠ .none)
    (goesOn : state ≠ .none) (caused : cause.isSome = true ↔ state = .suspended) :
    KeepsCut s (setCutState state cause s) := .of_change started rfl goesOn caused

theorem startCut_keepsCut {s : State} (planned : s.cut.state = .planned) : KeepsCut s (startCut s) :=
  .of_change (by simp [planned]) (by simp [startCut]) (by simp [startCut]) (by simp [startCut])

theorem serveStartCut_keepsCut (s : State) : KeepsCut s (serveStartCut s).1 := by
  unfold serveStartCut
  split
  · exact .refl s
  case isFalse planned =>
    repeat' split
    case isFalse => exact startCut_keepsCut (by simpa using planned)
    all_goals exact .refl s

theorem serveSuspendCut_keepsCut (s : State) : KeepsCut s (serveSuspendCut s).1 := by
  unfold serveSuspendCut
  split
  case h_1 running =>
    have suspended : KeepsCut s (setCutState .suspended (some .operator) s) :=
      setCutState_keepsCut (by simp [running]) (by simp) (by simp)
    exact suspended.trans (.of_same (by rfl))
  all_goals exact .refl s

theorem serveResumeCut_keepsCut (s : State) : KeepsCut s (serveResumeCut s).1 := by
  unfold serveResumeCut
  split
  · exact .refl s
  case isFalse admitted =>
    have suspended : s.cut.state = .suspended := by simp_all
    have resumed : KeepsCut s (setCutState .running none s) :=
      setCutState_keepsCut (by simp [suspended]) (by simp) (by simp)
    exact resumed.trans (.of_same (by rfl))

theorem discardPlanned_keepsCut (s : State) : KeepsCut s (discardPlanned s) := by
  unfold discardPlanned
  split
  · exact fun _ => discardPlan_consistent s
  · exact .refl s

theorem appendPartialCut_keepsCut (st : Station) (s : State) : KeepsCut s (appendPartialCut st s) := by
  unfold appendPartialCut
  repeat' split
  · exact changeBound_keepsCut _ _ _ _
  · exact .refl s
  · exact .refl s

theorem serveAbandonCut_keepsCut (s : State) : KeepsCut s (serveAbandonCut s).1 := by
  unfold serveAbandonCut
  repeat' split
  · exact .refl s
  · exact .refl s
  · exact discardPlanned_keepsCut s
  case isFalse underWay _ _ =>
    have started : s.cut.state ≠ .none := by simp_all
    have abandoned : KeepsCut s (setCutState .abandoned none s) := setCutState_keepsCut started (by simp) (by simp)
    exact ((abandoned.trans (.of_same (by rfl))).trans (appendPartialCut_keepsCut .one _)).trans (appendPartialCut_keepsCut .two _)

theorem serveTakePass_keepsCut (station : Nat) (s : State) : KeepsCut s (serveTakePass station s).1 := by
  have issued : ∀ st step, KeepsCut s (issueStep st step s) := fun st step =>
    KeepsCut.trans (.of_same (by rfl)) (rederive_keepsCut _)
  unfold serveTakePass offerStep
  simp only []
  repeat' split
  case isFalse => exact issued _ _
  all_goals exact .refl s

theorem completeCut_keepsCut (s : State) : KeepsCut s (completeCut s) := by
  unfold completeCut
  split
  case isTrue complete =>
    have started : s.cut.state ≠ .none := by
      intro none_
      simp [cutUnderWay, none_] at complete
    have completed : KeepsCut s (setCutState .complete none s) := setCutState_keepsCut started (by simp) (by simp)
    exact completed.trans (.of_same (by rfl))
  case isFalse => exact .refl s

theorem completeStep_keepsCut (st : Station) (step : Nat) (s : State) : KeepsCut s (completeStep st step s) := by
  have booked : KeepsCut s (bookStep st step s) := .of_same (by simp [cutItems, bookStep, bookMeasurement])
  have told : KeepsCut s (postCutState s.cut.state (reportAt st (.completed step)) (completeCut (bookStep st step s))) :=
    (booked.trans (completeCut_keepsCut _)).trans (.of_same (by rfl))
  have record : ∀ first finish x, KeepsCut x (bookRecord st first finish x) := by
    intro first finish x
    unfold bookRecord
    repeat' split
    · exact changeBound_keepsCut _ _ _ _
    · exact .refl x
    · exact .refl x
  exact (((told.trans (postIf_keepsCut _ _ _)).trans (postIf_keepsCut _ _ _)).trans (rederive_keepsCut _)).trans (record _ _ _)

/-- A report is carried out or refused (R169, R175). -/
theorem reportStep_keepsCut (st : Station) (step : Nat) {carried : State × Answer} {s : State}
    (done : KeepsCut s carried.1) : KeepsCut s (reportStep st step carried s).1 := by
  unfold reportStep
  repeat' split
  · exact done
  · exact .refl s
  · exact .refl s

theorem servePassDone_keepsCut (station step : Nat) (s : State) : KeepsCut s (servePassDone station step s).1 := by
  unfold servePassDone
  repeat' split
  · exact .refl s
  · exact .refl s
  · exact reportStep_keepsCut _ _ (completeStep_keepsCut _ _ _)

theorem servePassAborted_keepsCut (station step : Nat) (s : State) : KeepsCut s (servePassAborted station step s).1 := by
  unfold servePassAborted
  repeat' split
  · exact .refl s
  · exact .refl s
  · exact reportStep_keepsCut _ _ ((loseStep_keepsCut _ _ _).trans (rederive_keepsCut _))

theorem expireStep_keepsCut (st : Station) (s : State) : KeepsCut s (expireStep st s) := by
  unfold expireStep
  repeat' split
  · exact .refl s
  · exact (KeepsCut.trans (.of_same (by rfl)) (loseStep_keepsCut _ _ _)).trans (rederive_keepsCut _)
  · exact .refl s

theorem serveToolChanged_keepsCut (station side life : Nat) (s : State) :
    KeepsCut s (serveToolChanged station side life s).1 := by
  unfold serveToolChanged
  repeat' split
  all_goals exact .of_same rfl

/-! ## Records, jobs, templates and plans -/

theorem serveLoadAxle_keepsCut (i : AxleImage) (s : State) : KeepsCut s (serveLoadAxle i s).1 := by
  unfold serveLoadAxle
  repeat' split
  all_goals exact .of_same rfl

theorem serveReadAxle_keepsCut (identity : List Byte) (s : State) : KeepsCut s (serveReadAxle identity s).1 := by
  unfold serveReadAxle
  repeat' split
  all_goals exact .of_same rfl

theorem serveUnloadAxle_keepsCut (identity : List Byte) (s : State) : KeepsCut s (serveUnloadAxle identity s).1 := by
  unfold serveUnloadAxle
  repeat' split
  all_goals exact .of_same rfl

theorem serveListAxles_keepsCut (start : Nat) (s : State) : KeepsCut s (serveListAxles start s).1 := by
  unfold serveListAxles
  split <;> exact .refl s

theorem serveLoadTemplate_keepsCut (index : Nat) (t : TemplateFields) (s : State) :
    KeepsCut s (serveLoadTemplate index t s).1 := by
  unfold serveLoadTemplate
  repeat' split
  all_goals exact .of_same rfl

theorem serveReadTemplate_keepsCut (index : Nat) (s : State) : KeepsCut s (serveReadTemplate index s).1 := by
  unfold serveReadTemplate
  split <;> exact .refl s

theorem serveLoadDisposition_keepsCut (d : DispositionFields) (s : State) :
    KeepsCut s (serveLoadDisposition d s).1 := by
  unfold serveLoadDisposition
  repeat' split
  all_goals exact .of_same rfl

/-- A new job stands without a plan (R48). -/
theorem openJob_keepsCut (j : Job) (s : State) : KeepsCut s (openJob j s) := by
  have cleared : KeepsCut s (clearPlan (resetMeasurements { s with job := some j })) :=
    fun _ => clearPlan_consistent _
  exact (cleared.trans (rederive_keepsCut _)).trans (bindPositions_keepsCut _ _ _ _)

theorem serveSetJob_keepsCut (f : JobFields) (s : State) : KeepsCut s (serveSetJob f s).1 := by
  have single : ∀ first, KeepsCut s (setSingleJob f first s).1 := by
    intro first
    unfold setSingleJob
    repeat' split
    case isFalse => exact openJob_keepsCut (openedJob f first none) s
    all_goals exact .refl s
  have tandem : ∀ first second, KeepsCut s (setTandemJob f first second s).1 := by
    intro first second
    unfold setTandemJob
    repeat' split
    case isFalse => exact openJob_keepsCut (openedJob f first (some second)) s
    all_goals exact .refl s
  unfold serveSetJob
  repeat' split
  case h_2.isTrue => exact single _
  case h_2.isFalse => exact tandem _ _
  all_goals exact .refl s

theorem closeJob_keepsCut (j : Job) (s : State) : KeepsCut s (closeJob j s) := by
  have closed : KeepsCut s (closeCut s) := by
    unfold closeCut
    split
    · exact .refl s
    · exact fun _ => discardPlan_consistent s
  exact ((closed.trans (.of_same (by rfl))).trans (rederive_keepsCut _)).trans (bindPositions_keepsCut _ _ _ _)

theorem serveCloseJob_keepsCut (s : State) : KeepsCut s (serveCloseJob s).1 := by
  unfold serveCloseJob
  repeat' split
  · exact .refl s
  · exact .refl s
  · exact closeJob_keepsCut _ _

/-- A plan makes a NONE cut PLANNED, and any other cut keeps its state (R140). -/
theorem placePlan_keepsCut (p : Plan) (s : State) : KeepsCut s (placePlan p s) := by
  unfold placePlan
  simp only []
  split
  · exact fun _ => by simp [CutConsistent, lockSlots]
  case isFalse started => exact fun ⟨cause, _⟩ => ⟨cause, by simpa [lockSlots] using started⟩

theorem admitPlan_keepsCut (j : Job) (s : State) : KeepsCut s (admitPlan j s) := by
  have excluded : ∀ st x, KeepsCut x (appendExcluded (computePlan s j) j st x) := by
    intro st x
    unfold appendExcluded
    split
    · exact changeBound_keepsCut _ _ _ _
    · exact .refl x
  have placed := (placePlan_keepsCut (computePlan s j) s).trans (postAll_keepsCut [.planDone (computePlan s j)] _)
  refine (KeepsCut.trans ?_ (excluded .one _)).trans (excluded .two _)
  split
  · exact placed.trans (.of_same (by rfl))
  · exact placed

theorem servePlan_keepsCut (s : State) : KeepsCut s (servePlan s).1 := by
  unfold servePlan
  repeat' split
  case h_2 => exact admitPlan_keepsCut _ _
  all_goals exact .refl s

/-! ## The scans -/

theorem serveStartMeasure_keepsCut (station : Nat) (s : State) : KeepsCut s (serveStartMeasure station s).1 := by
  have started : ∀ st, KeepsCut s (startScan st s) := fun st => (discardPlanned_keepsCut s).trans (.of_same (by rfl))
  unfold serveStartMeasure
  repeat' split
  case isFalse => exact started _
  all_goals exact .refl s

theorem serveReadMeasure_keepsCut (position : Nat) (s : State) : KeepsCut s (serveReadMeasure position s).1 := by
  unfold serveReadMeasure
  split <;> exact .refl s

theorem serveReadPlan_keepsCut (s : State) : KeepsCut s (serveReadPlan s).1 := by
  unfold serveReadPlan
  split <;> exact .refl s

theorem handOn_keepsCut (st : Station) (m : Measurement) (s : State) : KeepsCut s (handOn st m s) := by
  have verifies : KeepsCut s (appendVerification st m (setMeasurement st (clearVerification m) s)) := by
    refine KeepsCut.trans (t := setMeasurement st (clearVerification m) s) (.of_same rfl) ?_
    unfold appendVerification
    repeat' split
    · exact changeBound_keepsCut _ _ _ _
    · exact changeBound_keepsCut _ _ _ _
    · exact .refl _
    · exact .refl _
  have measures : KeepsCut s (appendMeasure st m s) := by
    unfold appendMeasure
    split
    · exact changeBound_keepsCut _ _ _ _
    · exact .refl s
  unfold handOn
  repeat' split
  · exact .refl s
  · exact verifies
  · exact measures

theorem completeIfDue_keepsCut (st : Station) (s : State) : KeepsCut s (completeIfDue st s) := by
  unfold completeIfDue
  split
  · exact KeepsCut.trans (.of_same (by rfl)) (handOn_keepsCut _ _ _)
  · exact .refl s

theorem gaugePointTaken_keepsCut (c : Channel) (y z : Int) (s : State) : KeepsCut s (gaugePointTaken c y z s) := by
  unfold gaugePointTaken
  split <;> exact .of_same rfl

theorem endMarkerTaken_keepsCut (c : Channel) (s : State) : KeepsCut s (endMarkerTaken c s) := by
  unfold endMarkerTaken
  split
  · exact KeepsCut.trans (.of_same (by rfl)) (completeIfDue_keepsCut _ _)
  · exact .refl s

theorem indexEdgeTaken_keepsCut (st : Station) (s : State) : KeepsCut s (indexEdgeTaken st s) := by
  unfold indexEdgeTaken
  split
  · exact KeepsCut.trans (.of_same (by rfl)) (completeIfDue_keepsCut _ _)
  · exact .refl s

theorem rollerCountTaken_keepsCut (c : Channel) (s : State) : KeepsCut s (rollerCountTaken c s) := by
  unfold rollerCountTaken
  split <;> exact .of_same rfl

theorem expireScan_keepsCut (st : Station) (s : State) : KeepsCut s (expireScan st s) := by
  unfold expireScan
  split
  · exact (endScan_keepsCut _ _ _).trans (.of_same (by rfl))
  · exact .refl s

/-! ## Links, timers, reset, and the step -/

theorem serveOwner_keepsCut (port : PortId) (r : Request) (s : State) : KeepsCut s (serveOwner port r s).1 := by
  cases r with
  | loadAxle image => exact serveLoadAxle_keepsCut _ _
  | readAxle identity => exact serveReadAxle_keepsCut _ _
  | unloadAxle identity => exact serveUnloadAxle_keepsCut _ _
  | listAxles start => exact serveListAxles_keepsCut _ _
  | setJob fields => exact serveSetJob_keepsCut _ _
  | closeJob => exact serveCloseJob_keepsCut _
  | loadTemplate index fields => exact serveLoadTemplate_keepsCut _ _ _
  | readTemplate index => exact serveReadTemplate_keepsCut _ _
  | loadDisposition fields => exact serveLoadDisposition_keepsCut _ _
  | setConfig item index value => exact serveSetConfig_keepsCut _ _ _ _
  | clampRequest station => exact serveClampRequest_keepsCut _ _
  | unclampReport station => exact serveUnclampReport_keepsCut _ _
  | ackFault => exact serveAckFault_keepsCut _
  | liftMove target moveClass => exact serveLiftMove_keepsCut _ _ _
  | liftStopDecel => exact (stopRamping_keepsCut s).trans (rederiveIfLiftChanged_keepsCut _ _)
  | liftStopImmediate => exact (stopImmediately_keepsCut s).trans (rederiveIfLiftChanged_keepsCut _ _)
  | startMeasure station => exact serveStartMeasure_keepsCut _ _
  | readMeasure position => exact serveReadMeasure_keepsCut _ _
  | plan => exact servePlan_keepsCut _
  | readPlan => exact serveReadPlan_keepsCut _
  | startCut => exact serveStartCut_keepsCut _
  | suspendCut => exact serveSuspendCut_keepsCut _
  | resumeCut => exact serveResumeCut_keepsCut _
  | abandonCut => exact serveAbandonCut_keepsCut _
  | takePass station => exact serveTakePass_keepsCut _ _
  | passDone station step => exact servePassDone_keepsCut _ _ _
  | passAborted station step => exact servePassAborted_keepsCut _ _ _
  | toolChanged station side life => exact serveToolChanged_keepsCut _ _ _ _
  | readStatus | readDisposition | readConfig | unknownCode code | badPayload code => exact .of_same rfl

theorem takeRequest_keepsCut (port : PortId) (w : Waiting) (s : State) : KeepsCut s (takeRequest port w s) := by
  have served : KeepsCut s (serveRequest port w.request s).1 := by
    unfold serveRequest
    repeat' split
    · exact .refl s
    · exact serveOwner_keepsCut _ _ _
    · exact .refl s
  exact served.trans (.of_same (by rfl))

theorem offerRequest_keepsCut (port : PortId) (w : Waiting) (s : State) : KeepsCut s (offerRequest port w s) := by
  unfold offerRequest
  simp only []
  repeat' split
  · exact .of_same rfl
  · exact .of_same rfl
  · exact takeRequest_keepsCut _ _ _

theorem takeWhole_keepsCut (port : PortId) (frameType code tag : Byte) (payload : List Byte) (s : State) :
    KeepsCut s (takeWhole port frameType code tag payload s) := by
  unfold takeWhole
  simp only []
  repeat' split
  · exact .of_same rfl
  · exact .of_same rfl
  · exact offerRequest_keepsCut _ _ _

theorem completeFrame_keepsCut (port : PortId) (frameType code tag : Byte) (payload : List Byte) (s : State) :
    KeepsCut s (completeFrame port frameType code tag payload s) := by
  unfold completeFrame
  simp only []
  repeat' split
  · exact .of_same rfl
  · exact KeepsCut.trans (.of_same (by rfl)) (takeWhole_keepsCut _ _ _ _ _ _)
  · exact KeepsCut.trans (.of_same (by rfl)) (offerRequest_keepsCut _ _ _)
  · exact KeepsCut.trans (.of_same (by rfl)) (takeWhole_keepsCut _ _ _ _ _ _)

theorem receiveByte_keepsCut (port : PortId) (b : Byte) (s : State) : KeepsCut s (receiveByte port b s) := by
  unfold receiveByte judgeFrame
  simp only []
  repeat' split
  case h_2.isFalse.isFalse.isTrue => exact completeFrame_keepsCut _ _ _ _ _ _
  all_goals exact .of_same rfl

theorem receiveBytes_keepsCut (port : PortId) (bytes : List Byte) (s : State) : KeepsCut s (receiveBytes port bytes s) := by
  induction bytes generalizing s with
  | nil => exact .refl s
  | cons b bytes ih => exact (receiveByte_keepsCut port b s).trans (ih _)

theorem receiveCharacter_keepsCut (port : PortId) (b : Byte) (stopBit : Bool) (s : State) :
    KeepsCut s (receiveCharacter port b stopBit s) := by
  unfold receiveCharacter receiveBroken
  simp only []
  repeat' split
  · exact receiveByte_keepsCut _ _ _
  · exact .of_same rfl
  · exact .of_same rfl

theorem expireByteGap_keepsCut (port : PortId) (s : State) : KeepsCut s (expireByteGap port s) := by
  unfold expireByteGap
  simp only []
  repeat' split
  all_goals exact .of_same rfl

theorem endTransmission_keepsCut (port : PortId) (s : State) : KeepsCut s (endTransmission port s) := by
  have replied : KeepsCut s (endReply port s) := by
    unfold endReply
    simp only []
    split
    · exact .of_same rfl
    · exact KeepsCut.trans (.of_same (by rfl)) (takeRequest_keepsCut _ _ _)
  unfold endTransmission sendSecond
  simp only []
  repeat' split
  case h_4 => exact replied
  all_goals exact .of_same rfl

theorem takeEvent_keepsCut {f : State → State} {s t : State} (event : KeepsCut s (f s)) (taken : takeEvent f s = .next t) :
    KeepsCut s t := by
  unfold takeEvent at taken
  split at taken <;> cases taken
  · exact .refl s
  · exact event.trans (.of_same (by rfl))

/-- At its reset values the part has no plan and a NONE cut (R161). -/
theorem released_consistent {s : State} (cut : s.cut = State.reset.cut) (plan : s.plan = none) : CutConsistent s := by
  simp [CutConsistent, cut, plan, State.reset, State.released, CutSequencer.reset]

theorem releaseReset_keepsCut (pins : ReleasePins) (s : State) : KeepsCut s (releaseReset pins s) := by
  unfold releaseReset
  simp only []
  split
  · exact fun _ => assertEstop_keepsCut _ (released_consistent rfl rfl)
  · exact fun _ => released_consistent rfl rfl

theorem exec_keepsCut {c : Instr} {s t : State} (run : exec c s = .next t) : KeepsCut s t := by
  cases request : requestOf c with
  | some pw =>
    rw [exec_request request] at run
    exact takeEvent_keepsCut (offerRequest_keepsCut _ _ _) run
  | none =>
    cases c with
    | estopAssertion => exact takeEvent_keepsCut (assertEstop_keepsCut s) run
    | estopRelease => exact takeEvent_keepsCut (.of_same rfl) run
    | jackSample readings => exact takeEvent_keepsCut (takeSample_keepsCut readings s) run
    | profileUpdate => exact takeEvent_keepsCut (profileTick_keepsCut s) run
    | settleTimerExpiry => exact takeEvent_keepsCut (expireSettle_keepsCut s) run
    | gaugePoint channel y z => exact takeEvent_keepsCut (gaugePointTaken_keepsCut channel y z s) run
    | endMarker channel => exact takeEvent_keepsCut (endMarkerTaken_keepsCut channel s) run
    | wheelIndexEdge station => exact takeEvent_keepsCut (indexEdgeTaken_keepsCut station s) run
    | rollerCount channel => exact takeEvent_keepsCut (rollerCountTaken_keepsCut channel s) run
    | scanTimerExpiry station => exact takeEvent_keepsCut (expireScan_keepsCut station s) run
    | stepTimerExpiry station => exact takeEvent_keepsCut (expireStep_keepsCut station s) run
    | frameReceived port bytes => exact takeEvent_keepsCut (receiveBytes_keepsCut port bytes s) run
    | characterReceived port byte stopBit => exact takeEvent_keepsCut (receiveCharacter_keepsCut port byte stopBit s) run
    | byteGapTimerExpiry port => exact takeEvent_keepsCut (expireByteGap_keepsCut port s) run
    | transmitEnd port => exact takeEvent_keepsCut (endTransmission_keepsCut port s) run
    | reset =>
      cases run
      exact fun _ => released_consistent rfl rfl
    | resetRelease pins =>
      cases run
      exact (releaseReset_keepsCut pins s).trans (.of_same (by rfl))
    | _ => cases request

/-- Settles O57: a command keeps the cut consistent (`exec_keepsCut`), and a millisecond leaves it. -/
theorem cutConsistentKept : Obligations.CutConsistentKept := by
  intro s t held run
  unfold step at run
  split at run
  · cases run
    have ticked : KeepsCut s (tick s) := by
      unfold tick
      split <;> exact .of_same rfl
    exact ticked held
  case h_2 c rest _ =>
    have front : KeepsCut s { s with pending := rest } := .of_same rfl
    exact (front.trans (exec_keepsCut run)) held

end Sys2Proof.Machine
end

section
/-! PROOFS. The statements about the requests of the console to the Cut Sequencer and about TOOL_CHANGED: the rows of each
request and the state it leaves. -/

namespace Sys2Proof.Machine

/-- A message code that neither the depot nor the lathe may send is the console's alone (R190). -/
theorem roleAllows_console {code : Byte} {port : PortId} (other : port ≠ .console)
    (depot : roleAllows code .depot = false) (lathe : roleAllows code .lathe = false) : roleAllows code port = false := by
  cases port with
  | depot => exact depot
  | lathe => exact lathe
  | console => exact absurd rfl other

/-- The items of both contexts: those of station 2 are 0 where it does not exist (R202). -/
theorem stationItems_eq (s : State) (width : Nat) (items : CutContext → List Byte) :
    stationItems s width items
      = oneByte 1 ++ items s.cut.contexts.one
        ++ (if stationExists s .two then oneByte 1 ++ items s.cut.contexts.two else bytesOf (width + 1) 0) := by
  rw [stationItems, bothStations_eq]
  simp [stationExists, PerStation.get]

/-! ## START_CUT (R164, R165) -/

theorem planEmpty_eq {s : State} {p : Plan} (plan : s.plan = some p) : planEmpty s = (p.status == .empty) := by
  simp [planEmpty, plan]

/-- An included position whose record has no budget left refuses START_CUT (R164, row 4). -/
theorem budgetSpent_of_spent {s : State} {st : Station}
    (spent : planIncludes s st = true ∧ ∃ r, boundRecord s st = some r ∧ r.budget = 0) : budgetSpent s st = true := by
  obtain ⟨included, r, bound, none_⟩ := spent
  simp [budgetSpent, included, bound, none_]

theorem budgetSpent_of_allowed {s : State} {st : Station}
    (allowed : planIncludes s st = true → ∃ r, boundRecord s st = some r ∧ r.budget ≠ 0) : budgetSpent s st = false := by
  cases included : planIncludes s st with
  | false => simp [budgetSpent, included]
  | true =>
    obtain ⟨r, bound, left⟩ := allowed included
    simp [budgetSpent, bound, left]

theorem openedContext_eq (s : State) (st : Station) :
    openedContext s st = ⟨if planIncludes s st then some 1 else none, none, 0, false, false, none, none⟩ := by
  unfold openedContext
  split <;> rfl

/-- The Cut Sequencer at the start of a cut: the contexts of the included stations are opened (R165). -/
def openedCut (s : State) : CutSequencer :=
  { s.cut with state := .running, cause := none, contexts := ⟨openedContext s .one, openedContext s .two⟩ }

theorem startCut_eq (s : State) :
    startCut s = postAll [NoticeBody.cutState (jobNumber s) s.cut.state .running none noReports (nextSteps (openedCut s))]
      { s with cut := openedCut s } := rfl

/-- The rows of R164 with a plan that stands. -/
theorem serveStartCut_rows {s : State} {p : Plan} (planned : s.cut.state = .planned) (plan : s.plan = some p) :
    (p.status = .empty → serveStartCut s = refuseCause .emptyPlan [] s)
      ∧ (p.status ≠ .empty → s.interlock.phase = .halted → serveStartCut s = refuseCause .halted [] s)
      ∧ (p.status ≠ .empty → s.interlock.phase ≠ .halted →
        (budgetSpent s .one = true → serveStartCut s = refuseCause .budget (oneByte 1) s)
        ∧ (budgetSpent s .one = false → budgetSpent s .two = true →
            serveStartCut s = refuseCause .budget (oneByte 2) s)
        ∧ (budgetSpent s .one = false → budgetSpent s .two = false →
            serveStartCut s = answerOk (stationItems (startCut s) 1 fun c => optByte c.next) (startCut s))) := by
  simp only [serveStartCut, planned, planEmpty_eq plan]
  refine ⟨fun empty => ?_, fun steps halted => ?_, fun steps free => ⟨fun one => ?_, fun one two => ?_, fun one two => ?_⟩⟩
  · simp [empty]
  · simp [steps, halted]
  · simp [steps, free, one]
  · simp [steps, free, one, two]
  · simp [steps, free, one, two]

/-! ## SUSPEND_CUT and RESUME_CUT (R177, R178) -/

theorem serveSuspendCut_refused {s : State} (notRunning : s.cut.state ≠ .running) (notSuspended : s.cut.state ≠ .suspended) :
    serveSuspendCut s = refuse .interlock s := by
  unfold serveSuspendCut
  split
  case h_1 running => exact absurd running notRunning
  case h_2 suspended => exact absurd suspended notSuspended
  case h_3 => rfl

theorem serveResumeCut_resumed {s : State} (suspended : s.cut.state = .suspended) (free : s.interlock.phase ≠ .halted) :
    serveResumeCut s
      = (postAll [NoticeBody.cutState (jobNumber s) .suspended .running none noReports (nextSteps s.cut)]
          { s with cut := { s.cut with state := .running, cause := none } },
        okWith (stationItems s 3 resumeItems)) := by
  simp only [serveResumeCut, suspended, bne_self_eq_false, Bool.false_or, beq_iff_eq, if_neg free]
  rfl

/-! ## ABANDON_CUT (R179, R180) -/

/-- The rows of R179. -/
theorem serveAbandonCut_rows (s : State) :
    let ended := s.cut.state = .none ∨ s.cut.state = .complete ∨ s.cut.state = .abandoned
    (ended → serveAbandonCut s = refuse .interlock s)
      ∧ (¬ ended → anyStepInFlight s = true → serveAbandonCut s = refuse .busy s)
      ∧ (anyStepInFlight s = false →
        (s.cut.state = .planned → serveAbandonCut s = answerOk [] (discardPlanned s))
        ∧ (s.cut.state = .running ∨ s.cut.state = .suspended → serveAbandonCut s = answerOk [] (abandonCut s))) := by
  intro ended
  refine ⟨fun closed => ?_, fun lasts flying => ?_, fun still => ⟨fun planned => ?_, fun underWay => ?_⟩⟩
  · obtain h | h | h := closed <;> simp [serveAbandonCut, h]
  · simp only [ended, not_or] at lasts
    simp [serveAbandonCut, lasts, flying]
  · simp [serveAbandonCut, planned, still]
  · obtain h | h := underWay <;> simp [serveAbandonCut, h, still]

/-! ## Changes of bound records (R35) -/

/-- Without a record of an identity the change of that identity changes nothing. -/
theorem changeRecord_of_missing {id : List Byte} {store : List AxleRecord} (missing : findRecord id store = none)
    (f : AxleRecord → AxleRecord) : changeRecord id f store = store := by
  rw [findRecord, List.find?_eq_none] at missing
  refine (List.map_congr_left fun r among => ?_).trans (List.map_id store)
  have other : r.identity ≠ id := by simpa using missing r among
  simp [other]

/-- A change of a bound record after notices: the record in the store, and its RECORD_CHANGED behind the notices (R35). -/
theorem changeBound_postAll (ns : List NoticeBody) (st : Station) (f : AxleRecord → AxleRecord)
    (changes : AxleRecord → AxleRecord → ChangeSet) (s : State) :
    changeBound st f changes (postAll ns s)
      = postAll (ns ++ changeNotice s st f changes) { s with store := changedStore s st f s.store } := by
  have bound : boundRecord (postAll ns s) st = boundRecord s st := by rw [postAll_eq]; rfl
  rw [changeBound, bound, changeNotice, postAll_append]
  unfold changedStore boundRecord
  cases position : jobPosition s st with
  | none => simp
  | some p =>
    cases found : findRecord p.identity s.store with
    | none =>
      have same : changeRecord p.identity f s.store = s.store := changeRecord_of_missing found f
      simp only [changeRecord] at same
      simp [found, same]
    | some r =>
      simp only [Option.bind_some, found, findRecord_identity found, postAll_eq]
      rfl

/-- A change of the record of position 1 leaves the record of position 2, which is another one (R38). -/
theorem boundRecord_two_of_changed {s : State} (stands : JobStands s) {f : AxleRecord → AxleRecord}
    (keeps : ∀ r, (f r).identity = r.identity) :
    boundRecord { s with store := changedStore s .one f s.store } .two = boundRecord s .two := by
  cases open_ : s.job with
  | none => simp [boundRecord, jobPosition, open_]
  | some j =>
    obtain ⟨-, second⟩ := stands j open_
    cases position2 : j.position2 with
    | none => simp [boundRecord, jobPosition, open_, position2]
    | some p =>
      obtain ⟨differs, r, found, -⟩ := second p position2
      have other : r.identity ≠ j.position1.identity := by rwa [findRecord_identity found]
      have kept := findRecord_changeRecord p.identity j.position1.identity keeps s.store
      rw [found, Option.map_some, if_neg other] at kept
      simp only [boundRecord, jobPosition, open_, Option.bind_some, position2, changedStore, found]
      exact kept

/-! ## The PARTIAL_CUT events of an abandoned cut (R180) -/

/-- The PARTIAL_CUT append of a station's record. -/
def partialCutOf (j : Job) (s : State) (st : Station) : AxleRecord → AxleRecord :=
  partialCutRecord j (s.cut.contexts.get st).completed

/-- The RECORD_CHANGED of a PARTIAL_CUT, where the axle is partly cut. -/
def partialCutNotices (j : Job) (s : State) (st : Station) : List NoticeBody :=
  onlyIf (partlyCut s st) (changeNotice s st (partialCutOf j s st) remeasureChanges)

/-- The store after a PARTIAL_CUT, where the axle is partly cut. -/
def partialCutStore (j : Job) (s : State) (st : Station) (store : List AxleRecord) : List AxleRecord :=
  if partlyCut s st then changedStore s st (partialCutOf j s st) store else store

theorem appendPartialCut_postAll {s : State} {j : Job} (open_ : s.job = some j) (ns : List NoticeBody) (st : Station) :
    appendPartialCut st (postAll ns s)
      = postAll (ns ++ partialCutNotices j s st) { s with store := partialCutStore j s st s.store } := by
  have reads : partlyCut (postAll ns s) st = partlyCut s st ∧ (postAll ns s).job = some j
      ∧ (postAll ns s).cut = s.cut := by
    rw [postAll_eq]
    exact ⟨rfl, open_, rfl⟩
  obtain ⟨partly, job, cut⟩ := reads
  simp only [appendPartialCut, partly, job, cut, partialCutNotices, partialCutStore]
  cases partlyCut s st with
  | true => exact changeBound_postAll ns st (partialCutOf j s st) remeasureChanges s
  | false => simp

/-- A cut abandoned before its PARTIAL_CUT events: the state, the cause and the locks; plan and contexts stay (R180). -/
def abandoned (s : State) : State :=
  { s with cut := { s.cut with state := .abandoned, cause := none }, slots := unlocked s.slots }

/-- The state with another store. -/
def withStore (store : List AxleRecord) (s : State) : State := { s with store := store }

/-- The PARTIAL_CUT of position 1 goes before that of position 2, whose record it leaves (R180). -/
theorem partialCutNotices_two {s : State} (j : Job) (stands : JobStands s) :
    partialCutNotices j (withStore (partialCutStore j s .one s.store) (abandoned s)) .two = partialCutNotices j s .two := by
  have bound : boundRecord (withStore (partialCutStore j s .one s.store) (abandoned s)) .two = boundRecord s .two := by
    cases partly : partlyCut s .one with
    | true =>
      have store : partialCutStore j s .one s.store = changedStore s .one (partialCutOf j s .one) s.store := if_pos partly
      rw [store]
      exact boundRecord_two_of_changed stands fun _ => rfl
    | false =>
      have store : partialCutStore j s .one s.store = s.store := if_neg (by simp [partly])
      rw [store]
      rfl
  simp only [partialCutNotices, changeNotice, bound]
  rfl

/-- The CUT_STATE of an abandoned cut (R180, R182). -/
def abandonNotice (s : State) : NoticeBody :=
  .cutState (jobNumber s) s.cut.state .abandoned none noReports (nextSteps s.cut)

theorem abandonCut_eq {s : State} {j : Job} (open_ : s.job = some j) (stands : JobStands s) :
    abandonCut s
      = postAll ([abandonNotice s] ++ partialCutNotices j s .one ++ partialCutNotices j s .two)
          (withStore (partialCutStore j s .two (partialCutStore j s .one s.store)) (abandoned s)) := by
  have ends : postCutState s.cut.state noReports (releaseLocks (setCutState .abandoned none s))
      = postAll [abandonNotice s] (abandoned s) := rfl
  have jobKept : (abandoned s).job = some j := open_
  have one := appendPartialCut_postAll jobKept [abandonNotice s] .one
  have two := appendPartialCut_postAll (s := withStore (partialCutStore j s .one s.store) (abandoned s)) open_
    ([abandonNotice s] ++ partialCutNotices j s .one) .two
  rw [partialCutNotices_two j stands] at two
  rw [abandonCut, ends, one]
  exact two

/-! ## TOOL_CHANGED (R181) -/

theorem sideCode_of_named {side : Nat} {sd : Side} (named : sideOf side = some sd) : sideCode sd = side := by
  unfold sideOf at named
  split at named <;> cases named <;> rfl

theorem sideOf_eq_none {side : Nat} (high : 2 ≤ side) : sideOf side = none := by
  unfold sideOf
  split
  · omega
  · omega
  · rfl

theorem serveToolChanged_form {s : State} {station side life : Nat}
    (bad : stationArg s station = none ∨ 2 ≤ side ∨ life = 0 ∨ 256 ≤ life) :
    serveToolChanged station side life s = refuse .form s := by
  unfold serveToolChanged
  split
  case h_1 st sd named sided =>
    have outside : inRange 1 255 life = false := by
      have bound : ¬ (2 ≤ side) := fun high => by simp [sideOf_eq_none high] at sided
      rw [Bool.eq_false_iff, Ne, inRange_iff]
      rw [named] at bad
      simp only [reduceCtorEq, false_or] at bad
      omega
    rw [outside]
    rfl
  case h_2 => rfl

theorem serveToolChanged_rows {s : State} {station side life : Nat} {st : Station} {sd : Side}
    (named : stationArg s station = some st) (sided : sideOf side = some sd) (low : 1 ≤ life) (high : life ≤ 255) :
    ((stepInFlight s st).isSome = true → serveToolChanged station side life s = refuse .inFlight s)
      ∧ (stepInFlight s st = none → serveToolChanged station side life s
          = answerOk (oneByte station ++ oneByte side ++ oneByte life)
              (setTools st ((s.cut.tools.get st).set sd life) s)) := by
  have valid : inRange 1 255 life = true := (inRange_iff ..).mpr (by omega)
  simp only [serveToolChanged, named, sided, valid]
  refine ⟨fun flying => ?_, fun still => ?_⟩
  · simp [flying]
  · simp [still, stationNumber_of_named named, sideCode_of_named sided]

end Sys2Proof.Machine

namespace Sys2Proof

open Sys2Proof.Machine

/-- Settles O44: the rows of R164 (`serveStartCut_rows`), and the cut that they open (`startCut_eq`). -/
theorem startCut : Obligations.StartCut := by
  intro tag s
  refine ⟨fun port other ready => ?_, fun ready => ?_⟩
  · exact exec_role (w := ⟨tag, .startCut⟩) rfl ready (by simp) (roleAllows_console other rfl rfl)
  intro refused spent allowed
  have ends {y : State} {a : Answer} {ns : List NoticeBody} (served : serveStartCut s = (postAll ns y, a))
      (kept : y.ports = s.ports) : exec (.startCut .console tag) s = .next (carriedOut .console tag 0x50 a ns y) :=
    exec_served (w := ⟨tag, .startCut⟩) rfl ready (by simp) rfl served kept
  have refuses : ∀ {c fields}, serveStartCut s = refuseCause c fields s → refused (oneByte c.code ++ fields) :=
    fun served => ends (ns := []) served rfl
  have refusesPlain : ∀ {c}, serveStartCut s = refuseCause c [] s → refused (oneByte c.code) :=
    fun served => by simpa only [List.append_nil] using refuses served
  refine ⟨fun state => refusesPlain (c := .cutState) (by simp [serveStartCut, state]), fun p planned plan => ?_⟩
  obtain ⟨empty, halted, budgets⟩ := serveStartCut_rows planned plan
  refine ⟨fun h => refusesPlain (c := .emptyPlan) (empty h),
    fun h phase => refusesPlain (c := .halted) (halted h phase), fun steps free => ?_⟩
  obtain ⟨one, two, opens⟩ := budgets steps free
  refine ⟨fun h => refuses (c := .budget) (one (budgetSpent_of_spent h)),
    fun h1 h2 => refuses (c := .budget) (two (budgetSpent_of_allowed h1) (budgetSpent_of_spent h2)), ?_⟩
  intro h1 h2 next context
  have served := opens (budgetSpent_of_allowed h1) (budgetSpent_of_allowed h2)
  rw [stationItems_eq, startCut_eq, planned] at served
  simp only [openedCut, nextSteps, PerStation.map, openedContext_eq] at served
  exact ends served rfl

/-- Settles O45: SUSPEND_CUT by the cut state it meets, and RESUME_CUT (`serveResumeCut_resumed`). -/
theorem suspendAndResume : Obligations.SuspendAndResume := by
  intro tag s
  refine ⟨fun port other ready => ⟨?_, ?_⟩, fun ready => ?_⟩
  · exact exec_role (w := ⟨tag, .suspendCut⟩) rfl ready (by simp) (roleAllows_console other rfl rfl)
  · exact exec_role (w := ⟨tag, .resumeCut⟩) rfl ready (by simp) (roleAllows_console other rfl rfl)
  have suspends {y : State} {a : Answer} {ns : List NoticeBody} (served : serveSuspendCut s = (postAll ns y, a))
      (kept : y.ports = s.ports) : exec (.suspendCut .console tag) s = .next (carriedOut .console tag 0x51 a ns y) :=
    exec_served (w := ⟨tag, .suspendCut⟩) rfl ready (by simp) rfl served kept
  have resumes {y : State} {a : Answer} {ns : List NoticeBody} (served : serveResumeCut s = (postAll ns y, a))
      (kept : y.ports = s.ports) : exec (.resumeCut .console tag) s = .next (carriedOut .console tag 0x52 a ns y) :=
    exec_served (w := ⟨tag, .resumeCut⟩) rfl ready (by simp) rfl served kept
  refine ⟨fun running => suspends ?_ rfl, fun suspended => suspends (ns := []) ?_ rfl, fun notRunning notSuspended =>
    suspends (ns := []) (serveSuspendCut_refused notRunning notSuspended) rfl, fun barred => resumes (ns := []) ?_ rfl, ?_⟩
  · simp only [serveSuspendCut, running]
    rfl
  · simp only [serveSuspendCut, suspended]
    rfl
  · have row : (s.cut.state != .suspended || s.interlock.phase == .halted) = true := by simpa using barred
    simp only [serveResumeCut, row, if_true]
    rfl
  · intro suspended free items
    have served := serveResumeCut_resumed suspended free
    simp only [stationItems_eq, resumeItems, ← List.append_assoc] at served
    exact resumes served rfl

/-- Settles O46: the rows of R179 (`serveAbandonCut_rows`), the plan discarded from PLANNED (`discardPlanned_eq`), and the cut
abandoned from RUNNING and SUSPENDED (`abandonCut_eq`). -/
theorem abandonCut : Obligations.AbandonCut := by
  intro tag s
  refine ⟨fun port other ready => ?_, fun ready => ?_⟩
  · exact exec_role (w := ⟨tag, .abandonCut⟩) rfl ready (by simp) (roleAllows_console other rfl rfl)
  intro answered ended
  have ends {y : State} {a : Answer} {ns : List NoticeBody} (served : serveAbandonCut s = (postAll ns y, a))
      (kept : y.ports = s.ports) : exec (.abandonCut .console tag) s = .next (carriedOut .console tag 0x53 a ns y) :=
    exec_served (w := ⟨tag, .abandonCut⟩) rfl ready (by simp) rfl served kept
  have refused : ∀ {r}, serveAbandonCut s = refuse r s → answered r := fun served => ends (ns := []) served rfl
  obtain ⟨closed, busy, admitted⟩ := serveAbandonCut_rows s
  refine ⟨fun h => refused (closed h), fun h flying => refused (busy h flying), fun planned still => ?_, ?_⟩
  · have served := (admitted still).1 planned
    rw [discardPlanned_eq, discardNotices, plannedDiscarded, planned] at served
    exact ends served rfl
  · intro j underWay still open_ stands partly change changes store
    have served := (admitted still).2 underWay
    rw [abandonCut_eq open_ stands] at served
    refine ends (served.trans ?_) rfl
    have flags : ∀ st, changeNotice s st (partialCutOf j s st) remeasureChanges
        = changeNotice s st (change st) changes := by
      intro st
      unfold changeNotice
      cases boundRecord s st with
      | none => rfl
      | some r =>
        simp [remeasureChanges, ChangeSet.historyAnd, partialCutOf, partialCutRecord, changes]
    simp only [partialCutNotices, flags]
    rfl

/-- Settles O50: FORM where an argument is bad (`serveToolChanged_form`), else IN_FLIGHT or the one edge life. -/
theorem toolChanged : Obligations.ToolChanged := by
  intro tag station side life s ready answered
  have ends {y : State} {a : Answer} {ns : List NoticeBody} (served : serveToolChanged station side life s = (postAll ns y, a))
      (kept : y.ports = s.ports) :
      exec (.toolChanged .lathe tag station side life) s = .next (carriedOut .lathe tag 0x5B a ns y) :=
    exec_served (w := ⟨tag, .toolChanged station side life⟩) rfl ready (by simp) rfl served kept
  refine ⟨fun bad => ends (ns := []) (serveToolChanged_form bad) rfl, fun st sd named sided low high => ?_⟩
  obtain ⟨flying, still⟩ := serveToolChanged_rows named sided low high
  exact ⟨fun h => ends (ns := []) (flying h) rfl, fun h => ends (ns := []) (still h) rfl⟩

end Sys2Proof
end

section
/-! PROOFS. The statements about the reports of the lathe and the step timers: a step that completes, with its booking, and a step
that is lost. -/

namespace Sys2Proof.Machine

/-! ## The rows of a report (R169, R175) -/

theorem stepNumberValid_iff (step : Nat) : stepNumberValid step = true ↔ 1 ≤ step ∧ step ≤ 8 := by
  rw [stepNumberValid, Bool.and_eq_true, decide_eq_true_iff, decide_eq_true_iff]
  rfl

theorem stepNumberValid_outside {step : Nat} (outside : step = 0 ∨ 8 < step) : stepNumberValid step = false := by
  rw [Bool.eq_false_iff, Ne, stepNumberValid_iff]
  omega

/-- Rows 2 to 4 of R169 and R175. -/
theorem reportStep_rows (st : Station) (step : Nat) (carriedOut : State × Answer) (s : State) :
    (stepInFlight s st = some step → reportStep st step carriedOut s = carriedOut)
      ∧ (stepInFlight s st ≠ some step → (s.cut.contexts.get st).late = some step →
          reportStep st step carriedOut s = refuse .late s)
      ∧ (stepInFlight s st ≠ some step → (s.cut.contexts.get st).late ≠ some step →
          reportStep st step carriedOut s = refuse .stale s) := by
  unfold reportStep
  exact ⟨fun flies => if_pos flies, fun other late => by rw [if_neg other, if_pos late],
    fun other early => by rw [if_neg other, if_neg early]⟩

/-- A station or a step that does not exist (R169, R175, row 1). -/
theorem servePassDone_form {s : State} {station step : Nat} (bad : stationArg s station = none ∨ step = 0 ∨ 8 < step) :
    servePassDone station step s = refuse .form s := by
  unfold servePassDone
  split
  case h_1 => rfl
  case h_2 st named =>
    rw [stepNumberValid_outside (bad.resolve_left (by simp [named]))]
    rfl

theorem servePassAborted_form {s : State} {station step : Nat} (bad : stationArg s station = none ∨ step = 0 ∨ 8 < step) :
    servePassAborted station step s = refuse .form s := by
  unfold servePassAborted
  split
  case h_1 => rfl
  case h_2 st named =>
    rw [stepNumberValid_outside (bad.resolve_left (by simp [named]))]
    rfl

theorem servePassDone_admitted {s : State} {station step : Nat} {st : Station} (named : stationArg s station = some st)
    (low : 1 ≤ step) (high : step ≤ 8) :
    servePassDone station step s
      = reportStep st step (answerOk (passReply st step (completeStep st step s)) (completeStep st step s)) s := by
  simp only [servePassDone, named, (stepNumberValid_iff step).mpr ⟨low, high⟩]
  rfl

theorem servePassAborted_admitted {s : State} {station step : Nat} {st : Station} (named : stationArg s station = some st)
    (low : 1 ≤ step) (high : step ≤ 8) :
    servePassAborted station step s = reportStep st step (answerOk [] (rederive (loseStep st .latheAbort s))) s := by
  simp only [servePassAborted, named, (stepNumberValid_iff step).mpr ⟨low, high⟩]
  rfl

/-! ## The loss of a step (R173) -/

/-- The state with the step in flight of a station lost and its late mark as given; a RUNNING cut is suspended. -/
def stepLostAt (s : State) (st : Station) (cause : SuspendCause) (late : Option Nat) : State :=
  { s with
    cut := { s.cut with
      state := if s.cut.state = .running then .suspended else s.cut.state
      cause := if s.cut.state = .running then some cause else s.cut.cause
      contexts := s.cut.contexts.set st { s.cut.contexts.get st with inFlight := none, late := late }
      timers := s.cut.timers.set st none } }

/-- The CUT_STATE of a lost step (R182). -/
def lostNotice (s : State) (st : Station) (step : Nat) (cause : SuspendCause) (y : State) : NoticeBody :=
  .cutState (jobNumber s) s.cut.state y.cut.state y.cut.cause (reportAt st (.aborted step cause)) (nextSteps s.cut)

theorem nextSteps_set (c : CutSequencer) (st : Station) {x : CutContext} (same : x.next = (c.contexts.get st).next) :
    (c.contexts.set st x).map CutContext.next = nextSteps c := by
  cases st <;> simpa [nextSteps, PerStation.map, PerStation.set, PerStation.get] using same

theorem loseStep_eq {s : State} {st : Station} {step : Nat} (flies : stepInFlight s st = some step)
    (cause : SuspendCause) :
    loseStep st cause s
      = postAll [lostNotice s st step cause (stepLostAt s st cause (s.cut.contexts.get st).late)]
          (stepLostAt s st cause (s.cut.contexts.get st).late) := by
  have lost : suspendIfRunning cause (dropStep st s) = stepLostAt s st cause (s.cut.contexts.get st).late := by
    simp only [suspendIfRunning_eq, beq_iff_eq]
    rfl
  have next : (stepLostAt s st cause (s.cut.contexts.get st).late).cut.contexts.map CutContext.next = nextSteps s.cut :=
    nextSteps_set s.cut st rfl
  rw [loseStep, lost, postCutState, next, abortReport, flies]
  rfl

/-- The late mark is set and the step is lost (R174). -/
theorem loseStep_late {s : State} {st : Station} {step : Nat} (flies : stepInFlight s st = some step)
    (cause : SuspendCause) :
    loseStep st cause (setContext st { s.cut.contexts.get st with late := some step } s)
      = postAll [lostNotice s st step cause (stepLostAt s st cause (some step))] (stepLostAt s st cause (some step)) := by
  have stillFlies : stepInFlight (setContext st { s.cut.contexts.get st with late := some step } s) st = some step := by
    rw [← flies]
    cases st <;> rfl
  rw [loseStep_eq stillFlies]
  cases st <;> rfl

theorem expireStep_stopped {s : State} {st : Station} (stopped : stepInFlight s st = none ∨ s.cut.timers.get st = none) :
    expireStep st s = s := by
  unfold expireStep
  split
  case h_1 => rfl
  case h_2 step flies =>
    obtain still | off := stopped
    · simp [still] at flies
    · simp [off]

theorem expireStep_running {s : State} {st : Station} {step : Nat} (flies : stepInFlight s st = some step)
    (runs : (s.cut.timers.get st).isSome = true) :
    expireStep st s
      = rederive (loseStep st .timeout (setContext st { s.cut.contexts.get st with late := some step } s)) := by
  simp [expireStep, flies, runs]

/-! ## The parts of a completed step (R169, R170) -/

theorem isFinish_eq {s : State} {st : Station} {step : Nat} {e : StepEntry} (entry : stepEntry s st step = some e) :
    isFinish s st step = (e.kind == .finish) := by
  simp [isFinish, entry]

theorem depthsOf_eq {s : State} {st : Station} {step : Nat} {e : StepEntry} (entry : stepEntry s st step = some e) :
    depthsOf s st step = e.depth := by
  simp [depthsOf, entry]

theorem wornOut_eq (depth : Int) (life : Nat) : wornOut depth life = decide (0 < depth ∧ life = 1) := by
  rw [Bool.decide_and]
  rfl

/-- The measurement after a completed step: a VALID one is STALE, and the finish step makes verification due (R117, R119). -/
def bookedMeasurement (finish : Bool) (rFinal : Int) (m : Measurement) : Measurement :=
  { m with
    state := if m.state = .valid then .stale else m.state
    verifyDue := m.verifyDue || finish
    verifyTarget := if finish then some rFinal else m.verifyTarget }

theorem staleMeasurement_eq (m : Measurement) :
    staleMeasurement m = { m with state := if m.state = .valid then .stale else m.state } := by
  unfold staleMeasurement
  split
  case isTrue books =>
    have stale : (if m.state = .valid then MeasureState.stale else m.state) = .stale := by
      split
      · rfl
      · simp_all
    rw [stale]
  case isFalse other =>
    have notValid : m.state ≠ .valid := by simp_all
    rw [if_neg notValid]

theorem bookedMeasurement_eq (finish : Bool) (rFinal : Int) (m : Measurement) :
    (if finish then dueMeasurement rFinal (staleMeasurement m) else staleMeasurement m)
      = bookedMeasurement finish rFinal m := by
  rw [staleMeasurement_eq]
  cases finish with
  | true => simp [dueMeasurement, bookedMeasurement]
  | false => simp [bookedMeasurement]

/-- The state of a booked step: context, timer, tools and measurement (R169, steps 1, 2, 4 and 5). -/
theorem bookStep_eq {s : State} {st : Station} {step : Nat} {e : StepEntry} {p : PositionRecord} {rFinal : Int}
    (entry : stepEntry s st step = some e) (planned : planRecord s st = some p) (final : p.rFinal = some rFinal) :
    bookStep st step s =
      { s with
        cut := { s.cut with
          contexts := s.cut.contexts.set st (bookedContext (e.kind == .finish) step (s.cut.contexts.get st))
          timers := s.cut.timers.set st none
          tools := s.cut.tools.set st (wornTo e.depth (s.cut.tools.get st)) }
        measurements := s.measurements.set st
          (bookedMeasurement (e.kind == .finish) rFinal (s.measurements.get st)) } := by
  have target : ((planRecord s st).bind PositionRecord.rFinal).getD 0 = rFinal := by simp [planned, final]
  rw [← bookedMeasurement_eq, ← target, bookStep, isFinish_eq entry, depthsOf_eq entry]
  rfl

/-- The last included axle completes a cut that is under way (R171). -/
theorem completeCut_eq {s : State} {done : Bool} (plan : s.plan.isSome = true)
    (all_ : (cutUnderWay s && axlesDone s) = done) :
    completeCut s =
      { s with
        cut := { s.cut with
          state := if done then .complete else s.cut.state
          cause := if done then none else s.cut.cause }
        slots := if done then unlocked s.slots else s.slots } := by
  unfold completeCut
  rw [plan, Bool.and_true, all_]
  cases done <;> rfl

/-- The record of a completed step, field by field (R36, R37). -/
theorem bookedRecord_eq {p : PositionRecord} {template : Nat} {rFinal : Int} {removal : Sides Int}
    (used : p.used = some template) (final : p.rFinal = some rFinal) (removed : p.maxRemoval = some removal)
    (j : Job) (first finish : Bool) (r : AxleRecord) :
    bookedRecord j p first finish r =
      (let spent := if first then { r with budget := r.budget - 1, dirty := true } else r
      if finish then
        { spent with
          history := ringAppend r.history
            ⟨.cut template (maxInt removal.l removal.r), j.number, j.odometer, 2 * rFinal, 2 * rFinal⟩
          dirty := true, remeasure := true
          turnedA := minInt (2 * rFinal) r.newDia, turnedB := minInt (2 * rFinal) r.newDia }
      else spent) := by
  simp only [bookedRecord, used, final, removed, Option.getD_some]
  cases first <;> cases finish <;> rfl

theorem bookRecord_postAll {s : State} {j : Job} {p : PositionRecord} {st : Station} (open_ : s.job = some j)
    (planned : planRecord s st = some p) (first finish : Bool) (ns : List NoticeBody) :
    bookRecord st first finish (postAll ns s)
      = postAll
          (ns ++ onlyIf (first || finish)
            (changeNotice s st (bookedRecord j p first finish) fun _ _ => bookedChanges first finish))
          (withStore
            (if first || finish then changedStore s st (bookedRecord j p first finish) s.store else s.store) s) := by
  have job : (postAll ns s).job = some j := by rw [postAll_eq]; exact open_
  have plan : planRecord (postAll ns s) st = some p := by rw [postAll_eq]; exact planned
  simp only [bookRecord, job, plan]
  cases first || finish with
  | true => exact changeBound_postAll ns st (bookedRecord j p first finish) (fun _ _ => bookedChanges first finish) s
  | false => simp [withStore]

/-! ## A completed step (R169 to R172) -/

/-- The state with a phase held and the permits that follow it (R2, R8). -/
def holding (ph : Phase) (s : State) : State := { s with interlock := heldPhase s ph s.interlock.clamped }

/-- CUT_STATE and TOOL_OUT of a completed step that leaves the state `y` (R172). -/
def bookedNotices (st : Station) (step : Nat) (before : CutState) (depths : Sides Int) (lives : Sides Nat) (y : State) :
    List NoticeBody :=
  [NoticeBody.cutState (jobNumber y) before y.cut.state y.cut.cause (reportAt st (.completed step)) (nextSteps y.cut)]
    ++ onlyIf (decide (0 < depths.l ∧ lives.l = 1)) [NoticeBody.toolOut st .l]
    ++ onlyIf (decide (0 < depths.r ∧ lives.r = 1)) [NoticeBody.toolOut st .r]

/-- A completed step derives the phase after its CUT_STATE and TOOL_OUT, and then books the record (R172). -/
theorem completeStep_eq {s y : State} {st : Station} {step : Nat} {e : StepEntry} {ph : Phase}
    (entry : stepEntry s st step = some e) (booked : completeCut (bookStep st step s) = y)
    (derived : derivedPhase y = some ph) :
    completeStep st step s
      = bookRecord st (!(s.cut.contexts.get st).firstDone) (e.kind == .finish)
          (postAll (bookedNotices st step s.cut.state e.depth (s.cut.tools.get st) y ++ phaseNotice y ph) (holding ph y)) := by
  have told : postCutState s.cut.state (reportAt st (.completed step)) y
      = postAll [.cutState (jobNumber y) s.cut.state y.cut.state y.cut.cause (reportAt st (.completed step)) (nextSteps y.cut)]
          y := rfl
  have phased : rederive (postAll (bookedNotices st step s.cut.state e.depth (s.cut.tools.get st) y) y) = _ :=
    rederive_postAll _ derived
  simp only [bookedNotices, postAll_append] at phased
  simp only [completeStep, isFinish_eq entry, depthsOf_eq entry, booked, told, postIf_eq, wornOut_eq, phased]
  simp only [bookedNotices, postAll_append]
  rfl

theorem passReply_congr {x y : State} (cut : x.cut = y.cut) (st : Station) (step : Nat) :
    passReply st step x = passReply st step y := by
  simp only [passReply, cut]

end Sys2Proof.Machine

namespace Sys2Proof

open Sys2Proof.Machine

/-- Settles O49: the rows of R175 (`reportStep_rows`), and the loss of the step with the derivation after it (`loseStep_eq`,
`loseStep_late`, `rederive_postAll`). -/
theorem stepLost : Obligations.StepLost := by
  have ends {tag : Byte} {station step : Nat} {s y : State} {a : Answer} {ns : List NoticeBody} (ready : PortReady .lathe s)
      (served : servePassAborted station step s = (postAll ns y, a)) (kept : y.ports = s.ports) :
      exec (.passAborted .lathe tag station step) s = .next (carriedOut .lathe tag 0x5A a ns y) :=
    exec_served (w := ⟨tag, .passAborted station step⟩) rfl ready (by simp) rfl served kept
  refine ⟨fun tag station step s ready bad => ends (ns := []) ready (servePassAborted_form bad) rfl, ?_⟩
  intro tag station step st s named c lost notices answered
  refine ⟨fun ready low high => ?_, fun free => ⟨fun stopped => ?_, fun ph flies runs derived => ?_⟩⟩
  · have served := servePassAborted_admitted named low high
    obtain ⟨carried, late, stale⟩ := reportStep_rows st step (answerOk [] (rederive (loseStep st .latheAbort s))) s
    refine ⟨fun other h => ends (ns := []) ready (served.trans (late other h)) rfl,
      fun other h => ends (ns := []) ready (served.trans (stale other h)) rfl, fun ph flies derived => ?_⟩
    refine ends ready ((served.trans (carried flies)).trans ?_) rfl
    rw [loseStep_eq flies, answerOk_eq, rederive_postAll _ (s := stepLostAt s st .latheAbort c.late) derived]
    rfl
  · rw [exec, execStepTimerExpiry, takeEvent_released _ _ free, expireStep_stopped stopped]
    rfl
  · rw [exec, execStepTimerExpiry, takeEvent_released _ _ free, expireStep_running flies runs, loseStep_late flies,
      rederive_postAll _ (s := stepLostAt s st .timeout (some step)) derived]
    rfl

/-- Settles O48: the rows of R169 (`reportStep_rows`), and the completed step: its state (`bookStep_eq`, `completeCut_eq`), its
notices (`completeStep_eq`) and its record (`bookRecord_postAll`, `bookedRecord_eq`). -/
theorem passDone : Obligations.PassDone := by
  have ends {tag : Byte} {station step : Nat} {s y : State} {a : Answer} {ns : List NoticeBody} (ready : PortReady .lathe s)
      (served : servePassDone station step s = (postAll ns y, a)) (kept : y.ports = s.ports) :
      exec (.passDone .lathe tag station step) s = .next (carriedOut .lathe tag 0x59 a ns y) :=
    exec_served (w := ⟨tag, .passDone station step⟩) rfl ready (by simp) rfl served kept
  refine ⟨fun tag station step s ready bad => ends (ns := []) ready (servePassDone_form bad) rfl, ?_⟩
  intro tag station step st s ready named low high c lives m answered
  have served := servePassDone_admitted named low high
  obtain ⟨carried, late, stale⟩ :=
    reportStep_rows st step (answerOk (passReply st step (completeStep st step s)) (completeStep st step s)) s
  refine ⟨fun other h => ends (ns := []) ready (served.trans (late other h)) rfl,
    fun other h => ends (ns := []) ready (served.trans (stale other h)) rfl, ?_⟩
  intro j r p e template rFinal removal ph flies open_ bound planned entry used final removed
    finish first context after contexts underWay done y change changes derived
  have plan : s.plan.isSome = true := by
    cases standing : s.plan with
    | none => simp [planRecord, standing] at planned
    | some x => rfl
  have booked : completeCut (bookStep st step s) = y := by
    rw [bookStep_eq entry planned final]
    exact completeCut_eq (done := done) plan (Bool.and_assoc ..).symm
  have record : bookedRecord j p first finish = change := funext (bookedRecord_eq used final removed j first finish)
  have completed : completeStep st step s = bookRecord st first finish
      (postAll (bookedNotices st step s.cut.state e.depth lives y ++ phaseNotice y ph) (holding ph y)) :=
    completeStep_eq entry booked derived
  rw [bookRecord_postAll (s := holding ph y) open_ planned, record] at completed
  have notice : changeNotice (holding ph y) st change (fun _ _ => bookedChanges first finish)
      = [.recordChanged r.identity changes] := by
    have held : boundRecord (holding ph y) st = some r := bound
    rw [changeNotice, held]
    rfl
  have reply : passReply st step (completeStep st step s)
      = oneByte step ++ oneByte context.completed ++ optByte context.next ++ boolByte context.axleDone ++ oneByte after.l
        ++ oneByte after.r ++ oneByte y.cut.state.code := by
    have contextAt : y.cut.contexts.get st = context := PerStation.get_set_same ..
    have toolsAt : y.cut.tools.get st = after := PerStation.get_set_same ..
    rw [completed, passReply_congr (y := y) (by rw [postAll_eq]; rfl)]
    simp only [passReply, contextAt, toolsAt]
  refine ends ready ((served.trans (carried flies)).trans ?_) rfl
  rw [reply, completed, notice, answerOk_eq]
  rfl

end Sys2Proof
end
